-- ==== Sys2Proof/Word.lean ====
section
/-! DEFINITION. The two word types of the machine (00_scope.md R8): 8-bit bytes and 16-bit words. Arithmetic on them wraps
modulo 256 and modulo 65536 (10_state.md R20, R21). -/

namespace Sys2Proof

/-- An 8-bit register or a byte of memory (R8, R20). -/
abbrev Byte := BitVec 8

/-- A 16-bit register, register pair, address or bus word (R8, R21). -/
abbrev Word := BitVec 16

end Sys2Proof
end

