-- ==== Sys2Proof/Config.lean ====
section
/-! DEFINITION. What the machine is configured with and what the spec leaves open. Each is an opaque constant: nothing in
Lean can evaluate it, so a statement about it holds whatever its value. -/

namespace Sys2Proof.Config

/-- `EI_IE_VALUE` (R9, 92_eei_decisions.md D6): the 8-bit value the EI-family deferred action writes to IE. The spec gives no
value. Log entry 3. -/
opaque eiIeValue : Byte

/-- `RENDER_PERIOD_K` less one. The spec gives no value, only that K is positive (R9, D16). Log entry 4. -/
opaque renderPeriodPred : Nat

/-- `RENDER_PERIOD_K` (R9, D16): a positive number of retired instructions. -/
def renderPeriod : Nat := renderPeriodPred + 1

/-- What register number `reg` (A F B C D E H L are 0..7) holds after a fatal error, where the spec gives no value (R310,
D15). The first argument is the draw. Log entry 1. -/
opaque unspecifiedReg8 : (draw reg : Nat) → Byte

/-- What SP (0) and PC (1) hold after a fatal error (R310, D15). Log entry 1. -/
opaque unspecifiedReg16 : (draw reg : Nat) → Word

/-- What memory holds after a fatal error, as a list of writes into zeroed memory (R310, D15). Log entry 1. -/
opaque unspecifiedCells : (draw : Nat) → List Host.Cell

end Sys2Proof.Config
end

