-- ==== Sys2Proof/Syntax.lean ====
section
/-! DEFINITION. The instructions as data: one constructor per mnemonic of spec/opcode_table.json (30_encoding.md R109), each
with the operand bytes that follow its opcode key. The ten rows "(undefined)" share a mnemonic and are one constructor that
carries the key. The constructors that carry operands come first. A constructor is named after its mnemonic: an operand in parentheses is written with a leading i
(`ld_A_iHL` is LD A,(HL)), `(HL+)` is `iHLinc` and `(HL-)` is `iHLdec`. -/

namespace Sys2Proof

/-- The 8-bit registers an instruction can select (R93). F is not among them (R24). -/
inductive Reg8 where
  | b | c | d | e | h | l | a
deriving DecidableEq, Repr

/-- A 3-bit operand field: a register or the memory byte at HL (R93). -/
inductive Src8 where
  | reg (r : Reg8)
  | indHL
deriving DecidableEq, Repr

/-- The pair table rp (R96). -/
inductive Rp where
  | bc | de | hl | sp
deriving DecidableEq, Repr

/-- The pair table rp2 of PUSH and POP (R96). -/
inductive Rp2 where
  | bc | de | hl | af
deriving DecidableEq, Repr

/-- The conditions (R97, R250). -/
inductive Cond where
  | nz | z | nc | c
deriving DecidableEq, Repr

/-- The eight operations of the two-operand ALU group (41_alu8.md R160 to R167). -/
inductive AluOp where
  | add | adc | sub | sbc | and | xor | or | cp
deriving DecidableEq, Repr

/-- The eight prefixed rotate and shift operations (43_rotate_shift_bit.md R214 to R229). -/
inductive ShiftOp where
  | rlc | rrc | rl | rr | sla | sra | swap | srl
deriving DecidableEq, Repr

/-- An opcode key (R91): one byte, or an escape byte and the byte after it. -/
inductive OpcodeKey where
  | plain (b : Byte)
  | extended (escape next : Byte)
deriving DecidableEq, Repr

/-- The instructions. `n`, `a`, `e` are the operand bytes n8/n16, a8/a16 and e8 (R95). -/
inductive Instr where
  | ld_BC_n16 (n : Word)  -- 0x01 LD BC,n16 (R139)
  | ld_B_n8 (n : Byte)  -- 0x06 LD B,n8 (R121)
  | ld_ia16_SP (a : Word)  -- 0x08 LD (a16),SP (R143)
  | ld_C_n8 (n : Byte)  -- 0x0E LD C,n8 (R121)
  | stop (n : Byte)  -- 0x10 STOP (R284)
  | ld_DE_n16 (n : Word)  -- 0x11 LD DE,n16 (R139)
  | ld_D_n8 (n : Byte)  -- 0x16 LD D,n8 (R121)
  | jr_e8 (e : Byte)  -- 0x18 JR e8 (R254)
  | ld_E_n8 (n : Byte)  -- 0x1E LD E,n8 (R121)
  | jr_NZ_e8 (e : Byte)  -- 0x20 JR NZ,e8 (R255)
  | ld_HL_n16 (n : Word)  -- 0x21 LD HL,n16 (R139)
  | ld_H_n8 (n : Byte)  -- 0x26 LD H,n8 (R121)
  | jr_Z_e8 (e : Byte)  -- 0x28 JR Z,e8 (R255)
  | ld_L_n8 (n : Byte)  -- 0x2E LD L,n8 (R121)
  | jr_NC_e8 (e : Byte)  -- 0x30 JR NC,e8 (R255)
  | ld_SP_n16 (n : Word)  -- 0x31 LD SP,n16 (R139)
  | ld_iHL_n8 (n : Byte)  -- 0x36 LD (HL),n8 (R124)
  | jr_C_e8 (e : Byte)  -- 0x38 JR C,e8 (R255)
  | ld_A_n8 (n : Byte)  -- 0x3E LD A,n8 (R121)
  | jp_NZ_a16 (a : Word)  -- 0xC2 JP NZ,a16 (R252)
  | jp_a16 (a : Word)  -- 0xC3 JP a16 (R251)
  | call_NZ_a16 (a : Word)  -- 0xC4 CALL NZ,a16 (R257)
  | add_A_n8 (n : Byte)  -- 0xC6 ADD A,n8 (R160)
  | jp_Z_a16 (a : Word)  -- 0xCA JP Z,a16 (R252)
  | call_Z_a16 (a : Word)  -- 0xCC CALL Z,a16 (R257)
  | call_a16 (a : Word)  -- 0xCD CALL a16 (R256)
  | adc_A_n8 (n : Byte)  -- 0xCE ADC A,n8 (R161)
  | jp_NC_a16 (a : Word)  -- 0xD2 JP NC,a16 (R252)
  | undefinedKey (key : Byte)  -- the ten undefined plain keys (R101)
  | call_NC_a16 (a : Word)  -- 0xD4 CALL NC,a16 (R257)
  | sub_A_n8 (n : Byte)  -- 0xD6 SUB A,n8 (R162)
  | jp_C_a16 (a : Word)  -- 0xDA JP C,a16 (R252)
  | call_C_a16 (a : Word)  -- 0xDC CALL C,a16 (R257)
  | sbc_A_n8 (n : Byte)  -- 0xDE SBC A,n8 (R163)
  | ldh_ia8_A (a : Byte)  -- 0xE0 LDH (a8),A (R132)
  | and_A_n8 (n : Byte)  -- 0xE6 AND A,n8 (R164)
  | add_SP_e8 (e : Byte)  -- 0xE8 ADD SP,e8 (R193)
  | ld_ia16_A (a : Word)  -- 0xEA LD (a16),A (R130)
  | escape_ED (xx : Byte)  -- 0xED (escape 0xED, undefined) (R102)
  | xor_A_n8 (n : Byte)  -- 0xEE XOR A,n8 (R166)
  | ldh_A_ia8 (a : Byte)  -- 0xF0 LDH A,(a8) (R131)
  | or_A_n8 (n : Byte)  -- 0xF6 OR A,n8 (R165)
  | ld_HL_SPe8 (e : Byte)  -- 0xF8 LD HL,SP+e8 (R194)
  | ld_A_ia16 (a : Word)  -- 0xFA LD A,(a16) (R129)
  | cp_A_n8 (n : Byte)  -- 0xFE CP A,n8 (R167)
  | nop  -- 0x00 NOP (R280)
  | ld_iBC_A  -- 0x02 LD (BC),A (R127)
  | inc_BC  -- 0x03 INC BC (R191)
  | inc_B  -- 0x04 INC B (R168)
  | dec_B  -- 0x05 DEC B (R170)
  | rlca  -- 0x07 RLCA (R210)
  | add_HL_BC  -- 0x09 ADD HL,BC (R190)
  | ld_A_iBC  -- 0x0A LD A,(BC) (R125)
  | dec_BC  -- 0x0B DEC BC (R192)
  | inc_C  -- 0x0C INC C (R168)
  | dec_C  -- 0x0D DEC C (R170)
  | rrca  -- 0x0F RRCA (R212)
  | ld_iDE_A  -- 0x12 LD (DE),A (R128)
  | inc_DE  -- 0x13 INC DE (R191)
  | inc_D  -- 0x14 INC D (R168)
  | dec_D  -- 0x15 DEC D (R170)
  | rla  -- 0x17 RLA (R211)
  | add_HL_DE  -- 0x19 ADD HL,DE (R190)
  | ld_A_iDE  -- 0x1A LD A,(DE) (R126)
  | dec_DE  -- 0x1B DEC DE (R192)
  | inc_E  -- 0x1C INC E (R168)
  | dec_E  -- 0x1D DEC E (R170)
  | rra  -- 0x1F RRA (R213)
  | ld_iHLinc_A  -- 0x22 LD (HL+),A (R135)
  | inc_HL  -- 0x23 INC HL (R191)
  | inc_H  -- 0x24 INC H (R168)
  | dec_H  -- 0x25 DEC H (R170)
  | daa  -- 0x27 DAA (R175)
  | add_HL_HL  -- 0x29 ADD HL,HL (R190)
  | ld_A_iHLinc  -- 0x2A LD A,(HL+) (R137)
  | dec_HL  -- 0x2B DEC HL (R192)
  | inc_L  -- 0x2C INC L (R168)
  | dec_L  -- 0x2D DEC L (R170)
  | cpl  -- 0x2F CPL (R172)
  | ld_iHLdec_A  -- 0x32 LD (HL-),A (R136)
  | inc_SP  -- 0x33 INC SP (R191)
  | inc_iHL  -- 0x34 INC (HL) (R169)
  | dec_iHL  -- 0x35 DEC (HL) (R171)
  | scf  -- 0x37 SCF (R173)
  | add_HL_SP  -- 0x39 ADD HL,SP (R190)
  | ld_A_iHLdec  -- 0x3A LD A,(HL-) (R138)
  | dec_SP  -- 0x3B DEC SP (R192)
  | inc_A  -- 0x3C INC A (R168)
  | dec_A  -- 0x3D DEC A (R170)
  | ccf  -- 0x3F CCF (R174)
  | ld_B_B  -- 0x40 LD B,B (R120)
  | ld_B_C  -- 0x41 LD B,C (R120)
  | ld_B_D  -- 0x42 LD B,D (R120)
  | ld_B_E  -- 0x43 LD B,E (R120)
  | ld_B_H  -- 0x44 LD B,H (R120)
  | ld_B_L  -- 0x45 LD B,L (R120)
  | ld_B_iHL  -- 0x46 LD B,(HL) (R122)
  | ld_B_A  -- 0x47 LD B,A (R120)
  | ld_C_B  -- 0x48 LD C,B (R120)
  | ld_C_C  -- 0x49 LD C,C (R120)
  | ld_C_D  -- 0x4A LD C,D (R120)
  | ld_C_E  -- 0x4B LD C,E (R120)
  | ld_C_H  -- 0x4C LD C,H (R120)
  | ld_C_L  -- 0x4D LD C,L (R120)
  | ld_C_iHL  -- 0x4E LD C,(HL) (R122)
  | ld_C_A  -- 0x4F LD C,A (R120)
  | ld_D_B  -- 0x50 LD D,B (R120)
  | ld_D_C  -- 0x51 LD D,C (R120)
  | ld_D_D  -- 0x52 LD D,D (R120)
  | ld_D_E  -- 0x53 LD D,E (R120)
  | ld_D_H  -- 0x54 LD D,H (R120)
  | ld_D_L  -- 0x55 LD D,L (R120)
  | ld_D_iHL  -- 0x56 LD D,(HL) (R122)
  | ld_D_A  -- 0x57 LD D,A (R120)
  | ld_E_B  -- 0x58 LD E,B (R120)
  | ld_E_C  -- 0x59 LD E,C (R120)
  | ld_E_D  -- 0x5A LD E,D (R120)
  | ld_E_E  -- 0x5B LD E,E (R120)
  | ld_E_H  -- 0x5C LD E,H (R120)
  | ld_E_L  -- 0x5D LD E,L (R120)
  | ld_E_iHL  -- 0x5E LD E,(HL) (R122)
  | ld_E_A  -- 0x5F LD E,A (R120)
  | ld_H_B  -- 0x60 LD H,B (R120)
  | ld_H_C  -- 0x61 LD H,C (R120)
  | ld_H_D  -- 0x62 LD H,D (R120)
  | ld_H_E  -- 0x63 LD H,E (R120)
  | ld_H_H  -- 0x64 LD H,H (R120)
  | ld_H_L  -- 0x65 LD H,L (R120)
  | ld_H_iHL  -- 0x66 LD H,(HL) (R122)
  | ld_H_A  -- 0x67 LD H,A (R120)
  | ld_L_B  -- 0x68 LD L,B (R120)
  | ld_L_C  -- 0x69 LD L,C (R120)
  | ld_L_D  -- 0x6A LD L,D (R120)
  | ld_L_E  -- 0x6B LD L,E (R120)
  | ld_L_H  -- 0x6C LD L,H (R120)
  | ld_L_L  -- 0x6D LD L,L (R120)
  | ld_L_iHL  -- 0x6E LD L,(HL) (R122)
  | ld_L_A  -- 0x6F LD L,A (R120)
  | ld_iHL_B  -- 0x70 LD (HL),B (R123)
  | ld_iHL_C  -- 0x71 LD (HL),C (R123)
  | ld_iHL_D  -- 0x72 LD (HL),D (R123)
  | ld_iHL_E  -- 0x73 LD (HL),E (R123)
  | ld_iHL_H  -- 0x74 LD (HL),H (R123)
  | ld_iHL_L  -- 0x75 LD (HL),L (R123)
  | halt  -- 0x76 HALT (R283)
  | ld_iHL_A  -- 0x77 LD (HL),A (R123)
  | ld_A_B  -- 0x78 LD A,B (R120)
  | ld_A_C  -- 0x79 LD A,C (R120)
  | ld_A_D  -- 0x7A LD A,D (R120)
  | ld_A_E  -- 0x7B LD A,E (R120)
  | ld_A_H  -- 0x7C LD A,H (R120)
  | ld_A_L  -- 0x7D LD A,L (R120)
  | ld_A_iHL  -- 0x7E LD A,(HL) (R122)
  | ld_A_A  -- 0x7F LD A,A (R120)
  | add_A_B  -- 0x80 ADD A,B (R160)
  | add_A_C  -- 0x81 ADD A,C (R160)
  | add_A_D  -- 0x82 ADD A,D (R160)
  | add_A_E  -- 0x83 ADD A,E (R160)
  | add_A_H  -- 0x84 ADD A,H (R160)
  | add_A_L  -- 0x85 ADD A,L (R160)
  | add_A_iHL  -- 0x86 ADD A,(HL) (R160)
  | add_A_A  -- 0x87 ADD A,A (R160)
  | adc_A_B  -- 0x88 ADC A,B (R161)
  | adc_A_C  -- 0x89 ADC A,C (R161)
  | adc_A_D  -- 0x8A ADC A,D (R161)
  | adc_A_E  -- 0x8B ADC A,E (R161)
  | adc_A_H  -- 0x8C ADC A,H (R161)
  | adc_A_L  -- 0x8D ADC A,L (R161)
  | adc_A_iHL  -- 0x8E ADC A,(HL) (R161)
  | adc_A_A  -- 0x8F ADC A,A (R161)
  | sub_A_B  -- 0x90 SUB A,B (R162)
  | sub_A_C  -- 0x91 SUB A,C (R162)
  | sub_A_D  -- 0x92 SUB A,D (R162)
  | sub_A_E  -- 0x93 SUB A,E (R162)
  | sub_A_H  -- 0x94 SUB A,H (R162)
  | sub_A_L  -- 0x95 SUB A,L (R162)
  | sub_A_iHL  -- 0x96 SUB A,(HL) (R162)
  | sub_A_A  -- 0x97 SUB A,A (R162)
  | sbc_A_B  -- 0x98 SBC A,B (R163)
  | sbc_A_C  -- 0x99 SBC A,C (R163)
  | sbc_A_D  -- 0x9A SBC A,D (R163)
  | sbc_A_E  -- 0x9B SBC A,E (R163)
  | sbc_A_H  -- 0x9C SBC A,H (R163)
  | sbc_A_L  -- 0x9D SBC A,L (R163)
  | sbc_A_iHL  -- 0x9E SBC A,(HL) (R163)
  | sbc_A_A  -- 0x9F SBC A,A (R163)
  | and_A_B  -- 0xA0 AND A,B (R164)
  | and_A_C  -- 0xA1 AND A,C (R164)
  | and_A_D  -- 0xA2 AND A,D (R164)
  | and_A_E  -- 0xA3 AND A,E (R164)
  | and_A_H  -- 0xA4 AND A,H (R164)
  | and_A_L  -- 0xA5 AND A,L (R164)
  | and_A_iHL  -- 0xA6 AND A,(HL) (R164)
  | and_A_A  -- 0xA7 AND A,A (R164)
  | xor_A_B  -- 0xA8 XOR A,B (R166)
  | xor_A_C  -- 0xA9 XOR A,C (R166)
  | xor_A_D  -- 0xAA XOR A,D (R166)
  | xor_A_E  -- 0xAB XOR A,E (R166)
  | xor_A_H  -- 0xAC XOR A,H (R166)
  | xor_A_L  -- 0xAD XOR A,L (R166)
  | xor_A_iHL  -- 0xAE XOR A,(HL) (R166)
  | xor_A_A  -- 0xAF XOR A,A (R166)
  | or_A_B  -- 0xB0 OR A,B (R165)
  | or_A_C  -- 0xB1 OR A,C (R165)
  | or_A_D  -- 0xB2 OR A,D (R165)
  | or_A_E  -- 0xB3 OR A,E (R165)
  | or_A_H  -- 0xB4 OR A,H (R165)
  | or_A_L  -- 0xB5 OR A,L (R165)
  | or_A_iHL  -- 0xB6 OR A,(HL) (R165)
  | or_A_A  -- 0xB7 OR A,A (R165)
  | cp_A_B  -- 0xB8 CP A,B (R167)
  | cp_A_C  -- 0xB9 CP A,C (R167)
  | cp_A_D  -- 0xBA CP A,D (R167)
  | cp_A_E  -- 0xBB CP A,E (R167)
  | cp_A_H  -- 0xBC CP A,H (R167)
  | cp_A_L  -- 0xBD CP A,L (R167)
  | cp_A_iHL  -- 0xBE CP A,(HL) (R167)
  | cp_A_A  -- 0xBF CP A,A (R167)
  | ret_NZ  -- 0xC0 RET NZ (R259)
  | pop_BC  -- 0xC1 POP BC (R141)
  | push_BC  -- 0xC5 PUSH BC (R140)
  | rst_00  -- 0xC7 RST 0x00 (R261)
  | ret_Z  -- 0xC8 RET Z (R259)
  | ret  -- 0xC9 RET (R258)
  | rst_08  -- 0xCF RST 0x08 (R261)
  | ret_NC  -- 0xD0 RET NC (R259)
  | pop_DE  -- 0xD1 POP DE (R141)
  | push_DE  -- 0xD5 PUSH DE (R140)
  | rst_10  -- 0xD7 RST 0x10 (R261)
  | ret_C  -- 0xD8 RET C (R259)
  | reti  -- 0xD9 RETI (R260)
  | rst_18  -- 0xDF RST 0x18 (R261)
  | pop_HL  -- 0xE1 POP HL (R141)
  | ld_iC_A  -- 0xE2 LD (C),A (R134)
  | push_HL  -- 0xE5 PUSH HL (R140)
  | rst_20  -- 0xE7 RST 0x20 (R261)
  | jp_HL  -- 0xE9 JP HL (R253)
  | rst_28  -- 0xEF RST 0x28 (R261)
  | pop_AF  -- 0xF1 POP AF (R141)
  | ld_A_iC  -- 0xF2 LD A,(C) (R133)
  | di  -- 0xF3 DI (R281)
  | push_AF  -- 0xF5 PUSH AF (R140)
  | rst_30  -- 0xF7 RST 0x30 (R261)
  | ld_SP_HL  -- 0xF9 LD SP,HL (R142)
  | ei  -- 0xFB EI (R282)
  | rst_38  -- 0xFF RST 0x38 (R261)
  | rlc_B  -- 0xCB00 RLC B (R214)
  | rlc_C  -- 0xCB01 RLC C (R214)
  | rlc_D  -- 0xCB02 RLC D (R214)
  | rlc_E  -- 0xCB03 RLC E (R214)
  | rlc_H  -- 0xCB04 RLC H (R214)
  | rlc_L  -- 0xCB05 RLC L (R214)
  | rlc_iHL  -- 0xCB06 RLC (HL) (R215)
  | rlc_A  -- 0xCB07 RLC A (R214)
  | rrc_B  -- 0xCB08 RRC B (R216)
  | rrc_C  -- 0xCB09 RRC C (R216)
  | rrc_D  -- 0xCB0A RRC D (R216)
  | rrc_E  -- 0xCB0B RRC E (R216)
  | rrc_H  -- 0xCB0C RRC H (R216)
  | rrc_L  -- 0xCB0D RRC L (R216)
  | rrc_iHL  -- 0xCB0E RRC (HL) (R217)
  | rrc_A  -- 0xCB0F RRC A (R216)
  | rl_B  -- 0xCB10 RL B (R218)
  | rl_C  -- 0xCB11 RL C (R218)
  | rl_D  -- 0xCB12 RL D (R218)
  | rl_E  -- 0xCB13 RL E (R218)
  | rl_H  -- 0xCB14 RL H (R218)
  | rl_L  -- 0xCB15 RL L (R218)
  | rl_iHL  -- 0xCB16 RL (HL) (R219)
  | rl_A  -- 0xCB17 RL A (R218)
  | rr_B  -- 0xCB18 RR B (R220)
  | rr_C  -- 0xCB19 RR C (R220)
  | rr_D  -- 0xCB1A RR D (R220)
  | rr_E  -- 0xCB1B RR E (R220)
  | rr_H  -- 0xCB1C RR H (R220)
  | rr_L  -- 0xCB1D RR L (R220)
  | rr_iHL  -- 0xCB1E RR (HL) (R221)
  | rr_A  -- 0xCB1F RR A (R220)
  | sla_B  -- 0xCB20 SLA B (R222)
  | sla_C  -- 0xCB21 SLA C (R222)
  | sla_D  -- 0xCB22 SLA D (R222)
  | sla_E  -- 0xCB23 SLA E (R222)
  | sla_H  -- 0xCB24 SLA H (R222)
  | sla_L  -- 0xCB25 SLA L (R222)
  | sla_iHL  -- 0xCB26 SLA (HL) (R223)
  | sla_A  -- 0xCB27 SLA A (R222)
  | sra_B  -- 0xCB28 SRA B (R224)
  | sra_C  -- 0xCB29 SRA C (R224)
  | sra_D  -- 0xCB2A SRA D (R224)
  | sra_E  -- 0xCB2B SRA E (R224)
  | sra_H  -- 0xCB2C SRA H (R224)
  | sra_L  -- 0xCB2D SRA L (R224)
  | sra_iHL  -- 0xCB2E SRA (HL) (R225)
  | sra_A  -- 0xCB2F SRA A (R224)
  | swap_B  -- 0xCB30 SWAP B (R228)
  | swap_C  -- 0xCB31 SWAP C (R228)
  | swap_D  -- 0xCB32 SWAP D (R228)
  | swap_E  -- 0xCB33 SWAP E (R228)
  | swap_H  -- 0xCB34 SWAP H (R228)
  | swap_L  -- 0xCB35 SWAP L (R228)
  | swap_iHL  -- 0xCB36 SWAP (HL) (R229)
  | swap_A  -- 0xCB37 SWAP A (R228)
  | srl_B  -- 0xCB38 SRL B (R226)
  | srl_C  -- 0xCB39 SRL C (R226)
  | srl_D  -- 0xCB3A SRL D (R226)
  | srl_E  -- 0xCB3B SRL E (R226)
  | srl_H  -- 0xCB3C SRL H (R226)
  | srl_L  -- 0xCB3D SRL L (R226)
  | srl_iHL  -- 0xCB3E SRL (HL) (R227)
  | srl_A  -- 0xCB3F SRL A (R226)
  | bit_0_B  -- 0xCB40 BIT 0,B (R230)
  | bit_0_C  -- 0xCB41 BIT 0,C (R230)
  | bit_0_D  -- 0xCB42 BIT 0,D (R230)
  | bit_0_E  -- 0xCB43 BIT 0,E (R230)
  | bit_0_H  -- 0xCB44 BIT 0,H (R230)
  | bit_0_L  -- 0xCB45 BIT 0,L (R230)
  | bit_0_iHL  -- 0xCB46 BIT 0,(HL) (R231)
  | bit_0_A  -- 0xCB47 BIT 0,A (R230)
  | bit_1_B  -- 0xCB48 BIT 1,B (R230)
  | bit_1_C  -- 0xCB49 BIT 1,C (R230)
  | bit_1_D  -- 0xCB4A BIT 1,D (R230)
  | bit_1_E  -- 0xCB4B BIT 1,E (R230)
  | bit_1_H  -- 0xCB4C BIT 1,H (R230)
  | bit_1_L  -- 0xCB4D BIT 1,L (R230)
  | bit_1_iHL  -- 0xCB4E BIT 1,(HL) (R231)
  | bit_1_A  -- 0xCB4F BIT 1,A (R230)
  | bit_2_B  -- 0xCB50 BIT 2,B (R230)
  | bit_2_C  -- 0xCB51 BIT 2,C (R230)
  | bit_2_D  -- 0xCB52 BIT 2,D (R230)
  | bit_2_E  -- 0xCB53 BIT 2,E (R230)
  | bit_2_H  -- 0xCB54 BIT 2,H (R230)
  | bit_2_L  -- 0xCB55 BIT 2,L (R230)
  | bit_2_iHL  -- 0xCB56 BIT 2,(HL) (R231)
  | bit_2_A  -- 0xCB57 BIT 2,A (R230)
  | bit_3_B  -- 0xCB58 BIT 3,B (R230)
  | bit_3_C  -- 0xCB59 BIT 3,C (R230)
  | bit_3_D  -- 0xCB5A BIT 3,D (R230)
  | bit_3_E  -- 0xCB5B BIT 3,E (R230)
  | bit_3_H  -- 0xCB5C BIT 3,H (R230)
  | bit_3_L  -- 0xCB5D BIT 3,L (R230)
  | bit_3_iHL  -- 0xCB5E BIT 3,(HL) (R231)
  | bit_3_A  -- 0xCB5F BIT 3,A (R230)
  | bit_4_B  -- 0xCB60 BIT 4,B (R230)
  | bit_4_C  -- 0xCB61 BIT 4,C (R230)
  | bit_4_D  -- 0xCB62 BIT 4,D (R230)
  | bit_4_E  -- 0xCB63 BIT 4,E (R230)
  | bit_4_H  -- 0xCB64 BIT 4,H (R230)
  | bit_4_L  -- 0xCB65 BIT 4,L (R230)
  | bit_4_iHL  -- 0xCB66 BIT 4,(HL) (R231)
  | bit_4_A  -- 0xCB67 BIT 4,A (R230)
  | bit_5_B  -- 0xCB68 BIT 5,B (R230)
  | bit_5_C  -- 0xCB69 BIT 5,C (R230)
  | bit_5_D  -- 0xCB6A BIT 5,D (R230)
  | bit_5_E  -- 0xCB6B BIT 5,E (R230)
  | bit_5_H  -- 0xCB6C BIT 5,H (R230)
  | bit_5_L  -- 0xCB6D BIT 5,L (R230)
  | bit_5_iHL  -- 0xCB6E BIT 5,(HL) (R231)
  | bit_5_A  -- 0xCB6F BIT 5,A (R230)
  | bit_6_B  -- 0xCB70 BIT 6,B (R230)
  | bit_6_C  -- 0xCB71 BIT 6,C (R230)
  | bit_6_D  -- 0xCB72 BIT 6,D (R230)
  | bit_6_E  -- 0xCB73 BIT 6,E (R230)
  | bit_6_H  -- 0xCB74 BIT 6,H (R230)
  | bit_6_L  -- 0xCB75 BIT 6,L (R230)
  | bit_6_iHL  -- 0xCB76 BIT 6,(HL) (R231)
  | bit_6_A  -- 0xCB77 BIT 6,A (R230)
  | bit_7_B  -- 0xCB78 BIT 7,B (R230)
  | bit_7_C  -- 0xCB79 BIT 7,C (R230)
  | bit_7_D  -- 0xCB7A BIT 7,D (R230)
  | bit_7_E  -- 0xCB7B BIT 7,E (R230)
  | bit_7_H  -- 0xCB7C BIT 7,H (R230)
  | bit_7_L  -- 0xCB7D BIT 7,L (R230)
  | bit_7_iHL  -- 0xCB7E BIT 7,(HL) (R231)
  | bit_7_A  -- 0xCB7F BIT 7,A (R230)
  | res_0_B  -- 0xCB80 RES 0,B (R232)
  | res_0_C  -- 0xCB81 RES 0,C (R232)
  | res_0_D  -- 0xCB82 RES 0,D (R232)
  | res_0_E  -- 0xCB83 RES 0,E (R232)
  | res_0_H  -- 0xCB84 RES 0,H (R232)
  | res_0_L  -- 0xCB85 RES 0,L (R232)
  | res_0_iHL  -- 0xCB86 RES 0,(HL) (R233)
  | res_0_A  -- 0xCB87 RES 0,A (R232)
  | res_1_B  -- 0xCB88 RES 1,B (R232)
  | res_1_C  -- 0xCB89 RES 1,C (R232)
  | res_1_D  -- 0xCB8A RES 1,D (R232)
  | res_1_E  -- 0xCB8B RES 1,E (R232)
  | res_1_H  -- 0xCB8C RES 1,H (R232)
  | res_1_L  -- 0xCB8D RES 1,L (R232)
  | res_1_iHL  -- 0xCB8E RES 1,(HL) (R233)
  | res_1_A  -- 0xCB8F RES 1,A (R232)
  | res_2_B  -- 0xCB90 RES 2,B (R232)
  | res_2_C  -- 0xCB91 RES 2,C (R232)
  | res_2_D  -- 0xCB92 RES 2,D (R232)
  | res_2_E  -- 0xCB93 RES 2,E (R232)
  | res_2_H  -- 0xCB94 RES 2,H (R232)
  | res_2_L  -- 0xCB95 RES 2,L (R232)
  | res_2_iHL  -- 0xCB96 RES 2,(HL) (R233)
  | res_2_A  -- 0xCB97 RES 2,A (R232)
  | res_3_B  -- 0xCB98 RES 3,B (R232)
  | res_3_C  -- 0xCB99 RES 3,C (R232)
  | res_3_D  -- 0xCB9A RES 3,D (R232)
  | res_3_E  -- 0xCB9B RES 3,E (R232)
  | res_3_H  -- 0xCB9C RES 3,H (R232)
  | res_3_L  -- 0xCB9D RES 3,L (R232)
  | res_3_iHL  -- 0xCB9E RES 3,(HL) (R233)
  | res_3_A  -- 0xCB9F RES 3,A (R232)
  | res_4_B  -- 0xCBA0 RES 4,B (R232)
  | res_4_C  -- 0xCBA1 RES 4,C (R232)
  | res_4_D  -- 0xCBA2 RES 4,D (R232)
  | res_4_E  -- 0xCBA3 RES 4,E (R232)
  | res_4_H  -- 0xCBA4 RES 4,H (R232)
  | res_4_L  -- 0xCBA5 RES 4,L (R232)
  | res_4_iHL  -- 0xCBA6 RES 4,(HL) (R233)
  | res_4_A  -- 0xCBA7 RES 4,A (R232)
  | res_5_B  -- 0xCBA8 RES 5,B (R232)
  | res_5_C  -- 0xCBA9 RES 5,C (R232)
  | res_5_D  -- 0xCBAA RES 5,D (R232)
  | res_5_E  -- 0xCBAB RES 5,E (R232)
  | res_5_H  -- 0xCBAC RES 5,H (R232)
  | res_5_L  -- 0xCBAD RES 5,L (R232)
  | res_5_iHL  -- 0xCBAE RES 5,(HL) (R233)
  | res_5_A  -- 0xCBAF RES 5,A (R232)
  | res_6_B  -- 0xCBB0 RES 6,B (R232)
  | res_6_C  -- 0xCBB1 RES 6,C (R232)
  | res_6_D  -- 0xCBB2 RES 6,D (R232)
  | res_6_E  -- 0xCBB3 RES 6,E (R232)
  | res_6_H  -- 0xCBB4 RES 6,H (R232)
  | res_6_L  -- 0xCBB5 RES 6,L (R232)
  | res_6_iHL  -- 0xCBB6 RES 6,(HL) (R233)
  | res_6_A  -- 0xCBB7 RES 6,A (R232)
  | res_7_B  -- 0xCBB8 RES 7,B (R232)
  | res_7_C  -- 0xCBB9 RES 7,C (R232)
  | res_7_D  -- 0xCBBA RES 7,D (R232)
  | res_7_E  -- 0xCBBB RES 7,E (R232)
  | res_7_H  -- 0xCBBC RES 7,H (R232)
  | res_7_L  -- 0xCBBD RES 7,L (R232)
  | res_7_iHL  -- 0xCBBE RES 7,(HL) (R233)
  | res_7_A  -- 0xCBBF RES 7,A (R232)
  | set_0_B  -- 0xCBC0 SET 0,B (R234)
  | set_0_C  -- 0xCBC1 SET 0,C (R234)
  | set_0_D  -- 0xCBC2 SET 0,D (R234)
  | set_0_E  -- 0xCBC3 SET 0,E (R234)
  | set_0_H  -- 0xCBC4 SET 0,H (R234)
  | set_0_L  -- 0xCBC5 SET 0,L (R234)
  | set_0_iHL  -- 0xCBC6 SET 0,(HL) (R235)
  | set_0_A  -- 0xCBC7 SET 0,A (R234)
  | set_1_B  -- 0xCBC8 SET 1,B (R234)
  | set_1_C  -- 0xCBC9 SET 1,C (R234)
  | set_1_D  -- 0xCBCA SET 1,D (R234)
  | set_1_E  -- 0xCBCB SET 1,E (R234)
  | set_1_H  -- 0xCBCC SET 1,H (R234)
  | set_1_L  -- 0xCBCD SET 1,L (R234)
  | set_1_iHL  -- 0xCBCE SET 1,(HL) (R235)
  | set_1_A  -- 0xCBCF SET 1,A (R234)
  | set_2_B  -- 0xCBD0 SET 2,B (R234)
  | set_2_C  -- 0xCBD1 SET 2,C (R234)
  | set_2_D  -- 0xCBD2 SET 2,D (R234)
  | set_2_E  -- 0xCBD3 SET 2,E (R234)
  | set_2_H  -- 0xCBD4 SET 2,H (R234)
  | set_2_L  -- 0xCBD5 SET 2,L (R234)
  | set_2_iHL  -- 0xCBD6 SET 2,(HL) (R235)
  | set_2_A  -- 0xCBD7 SET 2,A (R234)
  | set_3_B  -- 0xCBD8 SET 3,B (R234)
  | set_3_C  -- 0xCBD9 SET 3,C (R234)
  | set_3_D  -- 0xCBDA SET 3,D (R234)
  | set_3_E  -- 0xCBDB SET 3,E (R234)
  | set_3_H  -- 0xCBDC SET 3,H (R234)
  | set_3_L  -- 0xCBDD SET 3,L (R234)
  | set_3_iHL  -- 0xCBDE SET 3,(HL) (R235)
  | set_3_A  -- 0xCBDF SET 3,A (R234)
  | set_4_B  -- 0xCBE0 SET 4,B (R234)
  | set_4_C  -- 0xCBE1 SET 4,C (R234)
  | set_4_D  -- 0xCBE2 SET 4,D (R234)
  | set_4_E  -- 0xCBE3 SET 4,E (R234)
  | set_4_H  -- 0xCBE4 SET 4,H (R234)
  | set_4_L  -- 0xCBE5 SET 4,L (R234)
  | set_4_iHL  -- 0xCBE6 SET 4,(HL) (R235)
  | set_4_A  -- 0xCBE7 SET 4,A (R234)
  | set_5_B  -- 0xCBE8 SET 5,B (R234)
  | set_5_C  -- 0xCBE9 SET 5,C (R234)
  | set_5_D  -- 0xCBEA SET 5,D (R234)
  | set_5_E  -- 0xCBEB SET 5,E (R234)
  | set_5_H  -- 0xCBEC SET 5,H (R234)
  | set_5_L  -- 0xCBED SET 5,L (R234)
  | set_5_iHL  -- 0xCBEE SET 5,(HL) (R235)
  | set_5_A  -- 0xCBEF SET 5,A (R234)
  | set_6_B  -- 0xCBF0 SET 6,B (R234)
  | set_6_C  -- 0xCBF1 SET 6,C (R234)
  | set_6_D  -- 0xCBF2 SET 6,D (R234)
  | set_6_E  -- 0xCBF3 SET 6,E (R234)
  | set_6_H  -- 0xCBF4 SET 6,H (R234)
  | set_6_L  -- 0xCBF5 SET 6,L (R234)
  | set_6_iHL  -- 0xCBF6 SET 6,(HL) (R235)
  | set_6_A  -- 0xCBF7 SET 6,A (R234)
  | set_7_B  -- 0xCBF8 SET 7,B (R234)
  | set_7_C  -- 0xCBF9 SET 7,C (R234)
  | set_7_D  -- 0xCBFA SET 7,D (R234)
  | set_7_E  -- 0xCBFB SET 7,E (R234)
  | set_7_H  -- 0xCBFC SET 7,H (R234)
  | set_7_L  -- 0xCBFD SET 7,L (R234)
  | set_7_iHL  -- 0xCBFE SET 7,(HL) (R235)
  | set_7_A  -- 0xCBFF SET 7,A (R234)
deriving DecidableEq, Repr

end Sys2Proof
end

