-- ==== Sys2Proof/WellFormed.lean ====
section
/-! DEFINITION. Which terms are well formed. An operand of an instruction is typed at the width its encoding gives it, so the
only terms of `Instr` that stand for no encoding are the undefined keys that are not undefined; a key can also pair the wrong
bytes. -/

namespace Sys2Proof

/-- The escape bytes (R91): 0xCB, and the reserved 0xED. -/
def isEscape (b : Byte) : Bool := b == 0xCB#8 || b == 0xED#8

/-- The ten plain bytes with no table entry (R101). -/
def undefinedPlainKeys : List Byte :=
  [0xD3#8, 0xDB#8, 0xDD#8, 0xE3#8, 0xE4#8, 0xEB#8, 0xEC#8, 0xF4#8, 0xFC#8, 0xFD#8]

/-- A plain key is no escape byte; an extended key begins with one (R91). -/
def OpcodeKey.wf : OpcodeKey → Bool
  | .plain b => !isEscape b
  | .extended e _ => isEscape e

/-- An undefined plain key is one of the ten of R101. Every other constructor is well formed whatever its operands. -/
def Instr.wf : Instr → Bool
  | .undefinedKey key => undefinedPlainKeys.contains key
  | _ => true

end Sys2Proof
end

