-- ==== Sys2Proof/Decode.lean ====
section
/-! DEFINITION. Decoding and encoding. The decoder reads the bit fields of 30_encoding.md R91 to R97 and puts operands
together; the opcode table (R44, R98, R109) lists each instruction's key and record, and the encoder writes an instruction's
bytes from it. Neither is written from the other. -/

namespace Sys2Proof

/-! ## Bytes and words (R11, R65, R66, R69) -/

/-- The word whose high and low bytes are given: `{hi, lo}`. -/
def wordOf (hi lo : Byte) : Word := BitVec.ofNat 16 (hi.toNat * 256 + lo.toNat)

/-- `v[15:8]`. -/
def hiByte (v : Word) : Byte := BitVec.ofNat 8 (v.toNat / 256)

/-- `v[7:0]`. -/
def loByte (v : Word) : Byte := BitVec.ofNat 8 (v.toNat % 256)

/-! ## Operand fields (R93, R96, R97) -/

/-- The 3-bit operand field of R93. -/
def srcField : Nat → Src8
  | 0 => .reg .b | 1 => .reg .c | 2 => .reg .d | 3 => .reg .e
  | 4 => .reg .h | 5 => .reg .l | 6 => .indHL | _ => .reg .a

/-- Table rp of R96. -/
def rpField : Nat → Rp
  | 0 => .bc | 1 => .de | 2 => .hl | _ => .sp

/-- Table rp2 of R96. -/
def rp2Field : Nat → Rp2
  | 0 => .bc | 1 => .de | 2 => .hl | _ => .af

/-- The condition field of R97. -/
def condField : Nat → Cond
  | 0 => .nz | 1 => .z | 2 => .nc | _ => .c

/-- `alu[y]` of R92: the operations in the order of R109's rows 8x to Bx. -/
def aluField : Nat → AluOp
  | 0 => .add | 1 => .adc | 2 => .sub | 3 => .sbc
  | 4 => .and | 5 => .xor | 6 => .or | _ => .cp

/-- The shift operation field of R92: the operations in the order of R109's prefixed rows 0x to 3x. -/
def shiftField : Nat → ShiftOp
  | 0 => .rlc | 1 => .rrc | 2 => .rl | 3 => .rr
  | 4 => .sla | 5 => .sra | 6 => .swap | _ => .srl

/-! ## The instructions of one form -/

/-- `LD r,r'` (R120). -/
def Instr.ldRegReg : (dst src : Reg8) → Instr
  | .b, .b => .ld_B_B
  | .b, .c => .ld_B_C
  | .b, .d => .ld_B_D
  | .b, .e => .ld_B_E
  | .b, .h => .ld_B_H
  | .b, .l => .ld_B_L
  | .b, .a => .ld_B_A
  | .c, .b => .ld_C_B
  | .c, .c => .ld_C_C
  | .c, .d => .ld_C_D
  | .c, .e => .ld_C_E
  | .c, .h => .ld_C_H
  | .c, .l => .ld_C_L
  | .c, .a => .ld_C_A
  | .d, .b => .ld_D_B
  | .d, .c => .ld_D_C
  | .d, .d => .ld_D_D
  | .d, .e => .ld_D_E
  | .d, .h => .ld_D_H
  | .d, .l => .ld_D_L
  | .d, .a => .ld_D_A
  | .e, .b => .ld_E_B
  | .e, .c => .ld_E_C
  | .e, .d => .ld_E_D
  | .e, .e => .ld_E_E
  | .e, .h => .ld_E_H
  | .e, .l => .ld_E_L
  | .e, .a => .ld_E_A
  | .h, .b => .ld_H_B
  | .h, .c => .ld_H_C
  | .h, .d => .ld_H_D
  | .h, .e => .ld_H_E
  | .h, .h => .ld_H_H
  | .h, .l => .ld_H_L
  | .h, .a => .ld_H_A
  | .l, .b => .ld_L_B
  | .l, .c => .ld_L_C
  | .l, .d => .ld_L_D
  | .l, .e => .ld_L_E
  | .l, .h => .ld_L_H
  | .l, .l => .ld_L_L
  | .l, .a => .ld_L_A
  | .a, .b => .ld_A_B
  | .a, .c => .ld_A_C
  | .a, .d => .ld_A_D
  | .a, .e => .ld_A_E
  | .a, .h => .ld_A_H
  | .a, .l => .ld_A_L
  | .a, .a => .ld_A_A

/-- `LD r,(HL)` (R122). -/
def Instr.ldRegInd : (dst : Reg8) → Instr
  | .b => .ld_B_iHL
  | .c => .ld_C_iHL
  | .d => .ld_D_iHL
  | .e => .ld_E_iHL
  | .h => .ld_H_iHL
  | .l => .ld_L_iHL
  | .a => .ld_A_iHL

/-- `LD (HL),r` (R123). -/
def Instr.ldIndReg : (src : Reg8) → Instr
  | .b => .ld_iHL_B
  | .c => .ld_iHL_C
  | .d => .ld_iHL_D
  | .e => .ld_iHL_E
  | .h => .ld_iHL_H
  | .l => .ld_iHL_L
  | .a => .ld_iHL_A

/-- Quadrant x=1: `LD r[y],r[z]`, and HALT where both fields are 6 (R92). -/
def Instr.ldQuadrant : (dst src : Src8) → Instr
  | .reg dst, .reg src => ldRegReg dst src
  | .reg dst, .indHL => ldRegInd dst
  | .indHL, .reg src => ldIndReg src
  | .indHL, .indHL => .halt

/-- `LD r,n8` and `LD (HL),n8` (R121, R124). -/
def Instr.ldImm8 : (dst : Src8) → Byte → Instr
  | .reg .b, n => .ld_B_n8 n
  | .reg .c, n => .ld_C_n8 n
  | .reg .d, n => .ld_D_n8 n
  | .reg .e, n => .ld_E_n8 n
  | .reg .h, n => .ld_H_n8 n
  | .reg .l, n => .ld_L_n8 n
  | .reg .a, n => .ld_A_n8 n
  | .indHL, n => .ld_iHL_n8 n

/-- The two-operand ALU group on a register (R160 to R167). -/
def Instr.aluReg : AluOp → Reg8 → Instr
  | .add, .b => .add_A_B
  | .add, .c => .add_A_C
  | .add, .d => .add_A_D
  | .add, .e => .add_A_E
  | .add, .h => .add_A_H
  | .add, .l => .add_A_L
  | .add, .a => .add_A_A
  | .adc, .b => .adc_A_B
  | .adc, .c => .adc_A_C
  | .adc, .d => .adc_A_D
  | .adc, .e => .adc_A_E
  | .adc, .h => .adc_A_H
  | .adc, .l => .adc_A_L
  | .adc, .a => .adc_A_A
  | .sub, .b => .sub_A_B
  | .sub, .c => .sub_A_C
  | .sub, .d => .sub_A_D
  | .sub, .e => .sub_A_E
  | .sub, .h => .sub_A_H
  | .sub, .l => .sub_A_L
  | .sub, .a => .sub_A_A
  | .sbc, .b => .sbc_A_B
  | .sbc, .c => .sbc_A_C
  | .sbc, .d => .sbc_A_D
  | .sbc, .e => .sbc_A_E
  | .sbc, .h => .sbc_A_H
  | .sbc, .l => .sbc_A_L
  | .sbc, .a => .sbc_A_A
  | .and, .b => .and_A_B
  | .and, .c => .and_A_C
  | .and, .d => .and_A_D
  | .and, .e => .and_A_E
  | .and, .h => .and_A_H
  | .and, .l => .and_A_L
  | .and, .a => .and_A_A
  | .xor, .b => .xor_A_B
  | .xor, .c => .xor_A_C
  | .xor, .d => .xor_A_D
  | .xor, .e => .xor_A_E
  | .xor, .h => .xor_A_H
  | .xor, .l => .xor_A_L
  | .xor, .a => .xor_A_A
  | .or, .b => .or_A_B
  | .or, .c => .or_A_C
  | .or, .d => .or_A_D
  | .or, .e => .or_A_E
  | .or, .h => .or_A_H
  | .or, .l => .or_A_L
  | .or, .a => .or_A_A
  | .cp, .b => .cp_A_B
  | .cp, .c => .cp_A_C
  | .cp, .d => .cp_A_D
  | .cp, .e => .cp_A_E
  | .cp, .h => .cp_A_H
  | .cp, .l => .cp_A_L
  | .cp, .a => .cp_A_A

/-- The two-operand ALU group on the byte at HL (R160 to R167). -/
def Instr.aluInd : AluOp → Instr
  | .add => .add_A_iHL
  | .adc => .adc_A_iHL
  | .sub => .sub_A_iHL
  | .sbc => .sbc_A_iHL
  | .and => .and_A_iHL
  | .xor => .xor_A_iHL
  | .or => .or_A_iHL
  | .cp => .cp_A_iHL

/-- The two-operand ALU group on an immediate (R160 to R167). -/
def Instr.aluImm : AluOp → Byte → Instr
  | .add, n => .add_A_n8 n
  | .adc, n => .adc_A_n8 n
  | .sub, n => .sub_A_n8 n
  | .sbc, n => .sbc_A_n8 n
  | .and, n => .and_A_n8 n
  | .xor, n => .xor_A_n8 n
  | .or, n => .or_A_n8 n
  | .cp, n => .cp_A_n8 n

/-- Quadrant x=2: `alu[y] A,r[z]` (R92). -/
def Instr.aluQuadrant (op : AluOp) : Src8 → Instr
  | .reg r => aluReg op r
  | .indHL => aluInd op

/-- Increment of a register or of the byte at HL (R168, R169). -/
def Instr.inc8 : Src8 → Instr
  | .reg .b => .inc_B
  | .reg .c => .inc_C
  | .reg .d => .inc_D
  | .reg .e => .inc_E
  | .reg .h => .inc_H
  | .reg .l => .inc_L
  | .reg .a => .inc_A
  | .indHL => .inc_iHL

/-- Decrement of a register or of the byte at HL (R170, R171). -/
def Instr.dec8 : Src8 → Instr
  | .reg .b => .dec_B
  | .reg .c => .dec_C
  | .reg .d => .dec_D
  | .reg .e => .dec_E
  | .reg .h => .dec_H
  | .reg .l => .dec_L
  | .reg .a => .dec_A
  | .indHL => .dec_iHL

/-- `LD rr,n16` (R139). -/
def Instr.ldRpImm : Rp → Word → Instr
  | .bc, n => .ld_BC_n16 n
  | .de, n => .ld_DE_n16 n
  | .hl, n => .ld_HL_n16 n
  | .sp, n => .ld_SP_n16 n

/-- `ADD HL,rr` (R190). -/
def Instr.addHL : Rp → Instr
  | .bc => .add_HL_BC
  | .de => .add_HL_DE
  | .hl => .add_HL_HL
  | .sp => .add_HL_SP

/-- `INC rr` (R191). -/
def Instr.incRp : Rp → Instr
  | .bc => .inc_BC
  | .de => .inc_DE
  | .hl => .inc_HL
  | .sp => .inc_SP

/-- `DEC rr` (R192). -/
def Instr.decRp : Rp → Instr
  | .bc => .dec_BC
  | .de => .dec_DE
  | .hl => .dec_HL
  | .sp => .dec_SP

/-- `PUSH rr` (R140). -/
def Instr.pushRp : Rp2 → Instr
  | .bc => .push_BC
  | .de => .push_DE
  | .hl => .push_HL
  | .af => .push_AF

/-- `POP rr` (R141). -/
def Instr.popRp : Rp2 → Instr
  | .bc => .pop_BC
  | .de => .pop_DE
  | .hl => .pop_HL
  | .af => .pop_AF

/-- `JR cc,e8` (R255). -/
def Instr.jrCond : Cond → Byte → Instr
  | .nz, e => .jr_NZ_e8 e
  | .z, e => .jr_Z_e8 e
  | .nc, e => .jr_NC_e8 e
  | .c, e => .jr_C_e8 e

/-- `JP cc,a16` (R252). -/
def Instr.jpCond : Cond → Word → Instr
  | .nz, a => .jp_NZ_a16 a
  | .z, a => .jp_Z_a16 a
  | .nc, a => .jp_NC_a16 a
  | .c, a => .jp_C_a16 a

/-- `CALL cc,a16` (R257). -/
def Instr.callCond : Cond → Word → Instr
  | .nz, a => .call_NZ_a16 a
  | .z, a => .call_Z_a16 a
  | .nc, a => .call_NC_a16 a
  | .c, a => .call_C_a16 a

/-- `RET cc` (R259). -/
def Instr.retCond : Cond → Instr
  | .nz => .ret_NZ
  | .z => .ret_Z
  | .nc => .ret_NC
  | .c => .ret_C

/-- `RST n` with n = y × 8 (R261). -/
def Instr.rstTo : (y : Fin 8) → Instr
  | 0 => .rst_00
  | 1 => .rst_08
  | 2 => .rst_10
  | 3 => .rst_18
  | 4 => .rst_20
  | 5 => .rst_28
  | 6 => .rst_30
  | 7 => .rst_38

/-- The prefixed rotates and shifts on a register (R214 to R228). -/
def Instr.shiftReg : ShiftOp → Reg8 → Instr
  | .rlc, .b => .rlc_B
  | .rlc, .c => .rlc_C
  | .rlc, .d => .rlc_D
  | .rlc, .e => .rlc_E
  | .rlc, .h => .rlc_H
  | .rlc, .l => .rlc_L
  | .rlc, .a => .rlc_A
  | .rrc, .b => .rrc_B
  | .rrc, .c => .rrc_C
  | .rrc, .d => .rrc_D
  | .rrc, .e => .rrc_E
  | .rrc, .h => .rrc_H
  | .rrc, .l => .rrc_L
  | .rrc, .a => .rrc_A
  | .rl, .b => .rl_B
  | .rl, .c => .rl_C
  | .rl, .d => .rl_D
  | .rl, .e => .rl_E
  | .rl, .h => .rl_H
  | .rl, .l => .rl_L
  | .rl, .a => .rl_A
  | .rr, .b => .rr_B
  | .rr, .c => .rr_C
  | .rr, .d => .rr_D
  | .rr, .e => .rr_E
  | .rr, .h => .rr_H
  | .rr, .l => .rr_L
  | .rr, .a => .rr_A
  | .sla, .b => .sla_B
  | .sla, .c => .sla_C
  | .sla, .d => .sla_D
  | .sla, .e => .sla_E
  | .sla, .h => .sla_H
  | .sla, .l => .sla_L
  | .sla, .a => .sla_A
  | .sra, .b => .sra_B
  | .sra, .c => .sra_C
  | .sra, .d => .sra_D
  | .sra, .e => .sra_E
  | .sra, .h => .sra_H
  | .sra, .l => .sra_L
  | .sra, .a => .sra_A
  | .swap, .b => .swap_B
  | .swap, .c => .swap_C
  | .swap, .d => .swap_D
  | .swap, .e => .swap_E
  | .swap, .h => .swap_H
  | .swap, .l => .swap_L
  | .swap, .a => .swap_A
  | .srl, .b => .srl_B
  | .srl, .c => .srl_C
  | .srl, .d => .srl_D
  | .srl, .e => .srl_E
  | .srl, .h => .srl_H
  | .srl, .l => .srl_L
  | .srl, .a => .srl_A

/-- The prefixed rotates and shifts on the byte at HL (R215 to R229). -/
def Instr.shiftInd : ShiftOp → Instr
  | .rlc => .rlc_iHL
  | .rrc => .rrc_iHL
  | .rl => .rl_iHL
  | .rr => .rr_iHL
  | .sla => .sla_iHL
  | .sra => .sra_iHL
  | .swap => .swap_iHL
  | .srl => .srl_iHL

/-- `BIT b,r`: test bit b of a register (R230). -/
def Instr.bitReg : (bitIx : Fin 8) → Reg8 → Instr
  | 0, .b => .bit_0_B
  | 0, .c => .bit_0_C
  | 0, .d => .bit_0_D
  | 0, .e => .bit_0_E
  | 0, .h => .bit_0_H
  | 0, .l => .bit_0_L
  | 0, .a => .bit_0_A
  | 1, .b => .bit_1_B
  | 1, .c => .bit_1_C
  | 1, .d => .bit_1_D
  | 1, .e => .bit_1_E
  | 1, .h => .bit_1_H
  | 1, .l => .bit_1_L
  | 1, .a => .bit_1_A
  | 2, .b => .bit_2_B
  | 2, .c => .bit_2_C
  | 2, .d => .bit_2_D
  | 2, .e => .bit_2_E
  | 2, .h => .bit_2_H
  | 2, .l => .bit_2_L
  | 2, .a => .bit_2_A
  | 3, .b => .bit_3_B
  | 3, .c => .bit_3_C
  | 3, .d => .bit_3_D
  | 3, .e => .bit_3_E
  | 3, .h => .bit_3_H
  | 3, .l => .bit_3_L
  | 3, .a => .bit_3_A
  | 4, .b => .bit_4_B
  | 4, .c => .bit_4_C
  | 4, .d => .bit_4_D
  | 4, .e => .bit_4_E
  | 4, .h => .bit_4_H
  | 4, .l => .bit_4_L
  | 4, .a => .bit_4_A
  | 5, .b => .bit_5_B
  | 5, .c => .bit_5_C
  | 5, .d => .bit_5_D
  | 5, .e => .bit_5_E
  | 5, .h => .bit_5_H
  | 5, .l => .bit_5_L
  | 5, .a => .bit_5_A
  | 6, .b => .bit_6_B
  | 6, .c => .bit_6_C
  | 6, .d => .bit_6_D
  | 6, .e => .bit_6_E
  | 6, .h => .bit_6_H
  | 6, .l => .bit_6_L
  | 6, .a => .bit_6_A
  | 7, .b => .bit_7_B
  | 7, .c => .bit_7_C
  | 7, .d => .bit_7_D
  | 7, .e => .bit_7_E
  | 7, .h => .bit_7_H
  | 7, .l => .bit_7_L
  | 7, .a => .bit_7_A

/-- `BIT b,(HL)`: test bit b of the byte at HL (R231). -/
def Instr.bitInd : (bitIx : Fin 8) → Instr
  | 0 => .bit_0_iHL
  | 1 => .bit_1_iHL
  | 2 => .bit_2_iHL
  | 3 => .bit_3_iHL
  | 4 => .bit_4_iHL
  | 5 => .bit_5_iHL
  | 6 => .bit_6_iHL
  | 7 => .bit_7_iHL

/-- `RES b,r`: clear bit b of a register (R232). -/
def Instr.resReg : (bitIx : Fin 8) → Reg8 → Instr
  | 0, .b => .res_0_B
  | 0, .c => .res_0_C
  | 0, .d => .res_0_D
  | 0, .e => .res_0_E
  | 0, .h => .res_0_H
  | 0, .l => .res_0_L
  | 0, .a => .res_0_A
  | 1, .b => .res_1_B
  | 1, .c => .res_1_C
  | 1, .d => .res_1_D
  | 1, .e => .res_1_E
  | 1, .h => .res_1_H
  | 1, .l => .res_1_L
  | 1, .a => .res_1_A
  | 2, .b => .res_2_B
  | 2, .c => .res_2_C
  | 2, .d => .res_2_D
  | 2, .e => .res_2_E
  | 2, .h => .res_2_H
  | 2, .l => .res_2_L
  | 2, .a => .res_2_A
  | 3, .b => .res_3_B
  | 3, .c => .res_3_C
  | 3, .d => .res_3_D
  | 3, .e => .res_3_E
  | 3, .h => .res_3_H
  | 3, .l => .res_3_L
  | 3, .a => .res_3_A
  | 4, .b => .res_4_B
  | 4, .c => .res_4_C
  | 4, .d => .res_4_D
  | 4, .e => .res_4_E
  | 4, .h => .res_4_H
  | 4, .l => .res_4_L
  | 4, .a => .res_4_A
  | 5, .b => .res_5_B
  | 5, .c => .res_5_C
  | 5, .d => .res_5_D
  | 5, .e => .res_5_E
  | 5, .h => .res_5_H
  | 5, .l => .res_5_L
  | 5, .a => .res_5_A
  | 6, .b => .res_6_B
  | 6, .c => .res_6_C
  | 6, .d => .res_6_D
  | 6, .e => .res_6_E
  | 6, .h => .res_6_H
  | 6, .l => .res_6_L
  | 6, .a => .res_6_A
  | 7, .b => .res_7_B
  | 7, .c => .res_7_C
  | 7, .d => .res_7_D
  | 7, .e => .res_7_E
  | 7, .h => .res_7_H
  | 7, .l => .res_7_L
  | 7, .a => .res_7_A

/-- `RES b,(HL)`: clear bit b of the byte at HL (R233). -/
def Instr.resInd : (bitIx : Fin 8) → Instr
  | 0 => .res_0_iHL
  | 1 => .res_1_iHL
  | 2 => .res_2_iHL
  | 3 => .res_3_iHL
  | 4 => .res_4_iHL
  | 5 => .res_5_iHL
  | 6 => .res_6_iHL
  | 7 => .res_7_iHL

/-- `SET b,r`: set bit b of a register (R234). -/
def Instr.setReg : (bitIx : Fin 8) → Reg8 → Instr
  | 0, .b => .set_0_B
  | 0, .c => .set_0_C
  | 0, .d => .set_0_D
  | 0, .e => .set_0_E
  | 0, .h => .set_0_H
  | 0, .l => .set_0_L
  | 0, .a => .set_0_A
  | 1, .b => .set_1_B
  | 1, .c => .set_1_C
  | 1, .d => .set_1_D
  | 1, .e => .set_1_E
  | 1, .h => .set_1_H
  | 1, .l => .set_1_L
  | 1, .a => .set_1_A
  | 2, .b => .set_2_B
  | 2, .c => .set_2_C
  | 2, .d => .set_2_D
  | 2, .e => .set_2_E
  | 2, .h => .set_2_H
  | 2, .l => .set_2_L
  | 2, .a => .set_2_A
  | 3, .b => .set_3_B
  | 3, .c => .set_3_C
  | 3, .d => .set_3_D
  | 3, .e => .set_3_E
  | 3, .h => .set_3_H
  | 3, .l => .set_3_L
  | 3, .a => .set_3_A
  | 4, .b => .set_4_B
  | 4, .c => .set_4_C
  | 4, .d => .set_4_D
  | 4, .e => .set_4_E
  | 4, .h => .set_4_H
  | 4, .l => .set_4_L
  | 4, .a => .set_4_A
  | 5, .b => .set_5_B
  | 5, .c => .set_5_C
  | 5, .d => .set_5_D
  | 5, .e => .set_5_E
  | 5, .h => .set_5_H
  | 5, .l => .set_5_L
  | 5, .a => .set_5_A
  | 6, .b => .set_6_B
  | 6, .c => .set_6_C
  | 6, .d => .set_6_D
  | 6, .e => .set_6_E
  | 6, .h => .set_6_H
  | 6, .l => .set_6_L
  | 6, .a => .set_6_A
  | 7, .b => .set_7_B
  | 7, .c => .set_7_C
  | 7, .d => .set_7_D
  | 7, .e => .set_7_E
  | 7, .h => .set_7_H
  | 7, .l => .set_7_L
  | 7, .a => .set_7_A

/-- `SET b,(HL)`: set bit b of the byte at HL (R235). -/
def Instr.setInd : (bitIx : Fin 8) → Instr
  | 0 => .set_0_iHL
  | 1 => .set_1_iHL
  | 2 => .set_2_iHL
  | 3 => .set_3_iHL
  | 4 => .set_4_iHL
  | 5 => .set_5_iHL
  | 6 => .set_6_iHL
  | 7 => .set_7_iHL

/-- A prefixed rotate or shift of an operand field (R92, x=0). -/
def Instr.shiftSrc (op : ShiftOp) : Src8 → Instr
  | .reg r => shiftReg op r
  | .indHL => shiftInd op

/-- BIT of an operand field (R92, x=1). -/
def Instr.bitSrc (bitIx : Fin 8) : Src8 → Instr
  | .reg r => bitReg bitIx r
  | .indHL => bitInd bitIx

/-- RES of an operand field (R92, x=2). -/
def Instr.resSrc (bitIx : Fin 8) : Src8 → Instr
  | .reg r => resReg bitIx r
  | .indHL => resInd bitIx

/-- SET of an operand field (R92, x=3). -/
def Instr.setSrc (bitIx : Fin 8) : Src8 → Instr
  | .reg r => setReg bitIx r
  | .indHL => setInd bitIx

/-! ## The decoder -/

/-- x=0 (R92, R96, R109 rows 0x to 3x): `n` is the byte after the key, `w` the little-endian word after it (R95). -/
def decodeQuadrant0 (y z : Nat) (n : Byte) (w : Word) : Instr :=
  match z with
  | 0 =>
    match y with
    | 0 => .nop | 1 => .ld_ia16_SP w | 2 => .stop n | 3 => .jr_e8 n
    | _ => .jrCond (condField (y % 4)) n
  | 1 => if y % 2 = 0 then .ldRpImm (rpField (y / 2)) w else .addHL (rpField (y / 2))
  | 2 =>
    match y with
    | 0 => .ld_iBC_A | 1 => .ld_A_iBC | 2 => .ld_iDE_A | 3 => .ld_A_iDE
    | 4 => .ld_iHLinc_A | 5 => .ld_A_iHLinc | 6 => .ld_iHLdec_A | _ => .ld_A_iHLdec
  | 3 => if y % 2 = 0 then .incRp (rpField (y / 2)) else .decRp (rpField (y / 2))
  | 4 => .inc8 (srcField y)
  | 5 => .dec8 (srcField y)
  | 6 => .ldImm8 (srcField y) n
  | _ =>
    match y with
    | 0 => .rlca | 1 => .rrca | 2 => .rla | 3 => .rra
    | 4 => .daa | 5 => .cpl | 6 => .scf | _ => .ccf

/-- x=3 (R92, R97, R109 rows Cx to Fx). A byte with no table entry is named by `undefinedKey` (R101). -/
def decodeQuadrant3 (key : Byte) (y z : Nat) (n : Byte) (w : Word) : Instr :=
  match z with
  | 0 =>
    match y with
    | 4 => .ldh_ia8_A n | 5 => .add_SP_e8 n | 6 => .ldh_A_ia8 n | 7 => .ld_HL_SPe8 n
    | _ => .retCond (condField y)
  | 1 =>
    match y with
    | 1 => .ret | 3 => .reti | 5 => .jp_HL | 7 => .ld_SP_HL
    | _ => .popRp (rp2Field (y / 2))
  | 2 =>
    match y with
    | 4 => .ld_iC_A | 5 => .ld_ia16_A w | 6 => .ld_A_iC | 7 => .ld_A_ia16 w
    | _ => .jpCond (condField y) w
  | 3 =>
    match y with
    | 0 => .jp_a16 w | 6 => .di | 7 => .ei
    | _ => .undefinedKey key
  | 4 => if y < 4 then .callCond (condField y) w else .undefinedKey key
  | 5 =>
    match y with
    | 1 => .call_a16 w | 3 => .undefinedKey key | 5 => .undefinedKey key | 7 => .undefinedKey key
    | _ => .pushRp (rp2Field (y / 2))
  | 6 => .aluImm (aluField y) n
  | _ => .rstTo (Fin.ofNat 8 y)

/-- A plain key and the two bytes after it (R91, R92). -/
def decodePlain (key n1 n2 : Byte) : Instr :=
  let y := key.toNat / 8 % 8
  let z := key.toNat % 8
  match key.toNat / 64 with
  | 0 => decodeQuadrant0 y z n1 (wordOf n2 n1)
  | 1 => .ldQuadrant (srcField y) (srcField z)
  | 2 => .aluQuadrant (aluField y) (srcField z)
  | _ => decodeQuadrant3 key y z n1 (wordOf n2 n1)

/-- The second byte of an extended key 0xCB.. (R92, R103). -/
def decodeCB (b1 : Byte) : Instr :=
  let y := b1.toNat / 8 % 8
  let src := srcField (b1.toNat % 8)
  match b1.toNat / 64 with
  | 0 => .shiftSrc (shiftField y) src
  | 1 => .bitSrc (Fin.ofNat 8 y) src
  | 2 => .resSrc (Fin.ofNat 8 y) src
  | _ => .setSrc (Fin.ofNat 8 y) src

/-- The instruction that begins with these three bytes; bytes past its end play no part (R91, R102, R106). -/
def decodeBytes (b0 b1 b2 : Byte) : Instr :=
  if b0 = 0xCB#8 then decodeCB b1
  else if b0 = 0xED#8 then .escape_ED b1
  else decodePlain b0 b1 b2

/-! ## The opcode table -/

/-- The families of spec/opcode_table.json. -/
inductive Family where
  | load8 | load16 | stack | alu8 | alu16 | rotate | cbShift | cbBit | control | system
deriving DecidableEq, Repr

/-- An instruction record (R98) without its key and its effect: the effect is `Machine.exec`. `cycles` and `cyclesNotTaken`
are informational and read by no rule (R344). -/
structure OpcodeRecord where
  family : Family
  cycles : Nat
  cyclesNotTaken : Option Nat
  byteLength : Nat
  ownsPc : Bool
deriving DecidableEq, Repr

/-- One row of the opcode table: the key, the operand bytes in address order, and the record, which an undefined key lacks
(R101, R102). -/
structure TableRow where
  key : OpcodeKey
  operands : List Byte
  entry : Option OpcodeRecord
deriving DecidableEq, Repr

/-- A row with a plain key whose instruction leaves pc to the loop. -/
def TableRow.op (key : Byte) (family : Family) (cycles byteLength : Nat) (operands : List Byte) : TableRow :=
  ⟨.plain key, operands, some ⟨family, cycles, none, byteLength, false⟩⟩

/-- A row of a control transfer, which sets pc itself (R99). -/
def TableRow.jump (key : Byte) (cycles : Nat) (notTaken : Option Nat) (byteLength : Nat) (operands : List Byte) : TableRow :=
  ⟨.plain key, operands, some ⟨.control, cycles, notTaken, byteLength, true⟩⟩

/-- A row of the prefixed space 0xCB (R103): byte_length 1 (R98). -/
def TableRow.cb (next : Byte) (family : Family) (cycles : Nat) : TableRow :=
  ⟨.extended 0xCB#8 next, [], some ⟨family, cycles, none, 1, false⟩⟩

/-- The opcode table of R109 and spec/opcode_table.json, row by row. -/
def Instr.tableRow : Instr → TableRow
  | .nop => .op 0x00#8 .system 4 1 []
  | .ld_BC_n16 n => .op 0x01#8 .load16 12 3 [loByte n, hiByte n]
  | .ld_iBC_A => .op 0x02#8 .load8 8 1 []
  | .inc_BC => .op 0x03#8 .alu16 8 1 []
  | .inc_B => .op 0x04#8 .alu8 4 1 []
  | .dec_B => .op 0x05#8 .alu8 4 1 []
  | .ld_B_n8 n => .op 0x06#8 .load8 8 2 [n]
  | .rlca => .op 0x07#8 .rotate 4 1 []
  | .ld_ia16_SP a => .op 0x08#8 .load16 20 3 [loByte a, hiByte a]
  | .add_HL_BC => .op 0x09#8 .alu16 8 1 []
  | .ld_A_iBC => .op 0x0A#8 .load8 8 1 []
  | .dec_BC => .op 0x0B#8 .alu16 8 1 []
  | .inc_C => .op 0x0C#8 .alu8 4 1 []
  | .dec_C => .op 0x0D#8 .alu8 4 1 []
  | .ld_C_n8 n => .op 0x0E#8 .load8 8 2 [n]
  | .rrca => .op 0x0F#8 .rotate 4 1 []
  | .stop n => .op 0x10#8 .system 4 2 [n]
  | .ld_DE_n16 n => .op 0x11#8 .load16 12 3 [loByte n, hiByte n]
  | .ld_iDE_A => .op 0x12#8 .load8 8 1 []
  | .inc_DE => .op 0x13#8 .alu16 8 1 []
  | .inc_D => .op 0x14#8 .alu8 4 1 []
  | .dec_D => .op 0x15#8 .alu8 4 1 []
  | .ld_D_n8 n => .op 0x16#8 .load8 8 2 [n]
  | .rla => .op 0x17#8 .rotate 4 1 []
  | .jr_e8 e => .jump 0x18#8 12 none 2 [e]
  | .add_HL_DE => .op 0x19#8 .alu16 8 1 []
  | .ld_A_iDE => .op 0x1A#8 .load8 8 1 []
  | .dec_DE => .op 0x1B#8 .alu16 8 1 []
  | .inc_E => .op 0x1C#8 .alu8 4 1 []
  | .dec_E => .op 0x1D#8 .alu8 4 1 []
  | .ld_E_n8 n => .op 0x1E#8 .load8 8 2 [n]
  | .rra => .op 0x1F#8 .rotate 4 1 []
  | .jr_NZ_e8 e => .jump 0x20#8 12 (some 8) 2 [e]
  | .ld_HL_n16 n => .op 0x21#8 .load16 12 3 [loByte n, hiByte n]
  | .ld_iHLinc_A => .op 0x22#8 .load8 8 1 []
  | .inc_HL => .op 0x23#8 .alu16 8 1 []
  | .inc_H => .op 0x24#8 .alu8 4 1 []
  | .dec_H => .op 0x25#8 .alu8 4 1 []
  | .ld_H_n8 n => .op 0x26#8 .load8 8 2 [n]
  | .daa => .op 0x27#8 .alu8 4 1 []
  | .jr_Z_e8 e => .jump 0x28#8 12 (some 8) 2 [e]
  | .add_HL_HL => .op 0x29#8 .alu16 8 1 []
  | .ld_A_iHLinc => .op 0x2A#8 .load8 8 1 []
  | .dec_HL => .op 0x2B#8 .alu16 8 1 []
  | .inc_L => .op 0x2C#8 .alu8 4 1 []
  | .dec_L => .op 0x2D#8 .alu8 4 1 []
  | .ld_L_n8 n => .op 0x2E#8 .load8 8 2 [n]
  | .cpl => .op 0x2F#8 .alu8 4 1 []
  | .jr_NC_e8 e => .jump 0x30#8 12 (some 8) 2 [e]
  | .ld_SP_n16 n => .op 0x31#8 .load16 12 3 [loByte n, hiByte n]
  | .ld_iHLdec_A => .op 0x32#8 .load8 8 1 []
  | .inc_SP => .op 0x33#8 .alu16 8 1 []
  | .inc_iHL => .op 0x34#8 .alu8 12 1 []
  | .dec_iHL => .op 0x35#8 .alu8 12 1 []
  | .ld_iHL_n8 n => .op 0x36#8 .load8 12 2 [n]
  | .scf => .op 0x37#8 .alu8 4 1 []
  | .jr_C_e8 e => .jump 0x38#8 12 (some 8) 2 [e]
  | .add_HL_SP => .op 0x39#8 .alu16 8 1 []
  | .ld_A_iHLdec => .op 0x3A#8 .load8 8 1 []
  | .dec_SP => .op 0x3B#8 .alu16 8 1 []
  | .inc_A => .op 0x3C#8 .alu8 4 1 []
  | .dec_A => .op 0x3D#8 .alu8 4 1 []
  | .ld_A_n8 n => .op 0x3E#8 .load8 8 2 [n]
  | .ccf => .op 0x3F#8 .alu8 4 1 []
  | .ld_B_B => .op 0x40#8 .load8 4 1 []
  | .ld_B_C => .op 0x41#8 .load8 4 1 []
  | .ld_B_D => .op 0x42#8 .load8 4 1 []
  | .ld_B_E => .op 0x43#8 .load8 4 1 []
  | .ld_B_H => .op 0x44#8 .load8 4 1 []
  | .ld_B_L => .op 0x45#8 .load8 4 1 []
  | .ld_B_iHL => .op 0x46#8 .load8 8 1 []
  | .ld_B_A => .op 0x47#8 .load8 4 1 []
  | .ld_C_B => .op 0x48#8 .load8 4 1 []
  | .ld_C_C => .op 0x49#8 .load8 4 1 []
  | .ld_C_D => .op 0x4A#8 .load8 4 1 []
  | .ld_C_E => .op 0x4B#8 .load8 4 1 []
  | .ld_C_H => .op 0x4C#8 .load8 4 1 []
  | .ld_C_L => .op 0x4D#8 .load8 4 1 []
  | .ld_C_iHL => .op 0x4E#8 .load8 8 1 []
  | .ld_C_A => .op 0x4F#8 .load8 4 1 []
  | .ld_D_B => .op 0x50#8 .load8 4 1 []
  | .ld_D_C => .op 0x51#8 .load8 4 1 []
  | .ld_D_D => .op 0x52#8 .load8 4 1 []
  | .ld_D_E => .op 0x53#8 .load8 4 1 []
  | .ld_D_H => .op 0x54#8 .load8 4 1 []
  | .ld_D_L => .op 0x55#8 .load8 4 1 []
  | .ld_D_iHL => .op 0x56#8 .load8 8 1 []
  | .ld_D_A => .op 0x57#8 .load8 4 1 []
  | .ld_E_B => .op 0x58#8 .load8 4 1 []
  | .ld_E_C => .op 0x59#8 .load8 4 1 []
  | .ld_E_D => .op 0x5A#8 .load8 4 1 []
  | .ld_E_E => .op 0x5B#8 .load8 4 1 []
  | .ld_E_H => .op 0x5C#8 .load8 4 1 []
  | .ld_E_L => .op 0x5D#8 .load8 4 1 []
  | .ld_E_iHL => .op 0x5E#8 .load8 8 1 []
  | .ld_E_A => .op 0x5F#8 .load8 4 1 []
  | .ld_H_B => .op 0x60#8 .load8 4 1 []
  | .ld_H_C => .op 0x61#8 .load8 4 1 []
  | .ld_H_D => .op 0x62#8 .load8 4 1 []
  | .ld_H_E => .op 0x63#8 .load8 4 1 []
  | .ld_H_H => .op 0x64#8 .load8 4 1 []
  | .ld_H_L => .op 0x65#8 .load8 4 1 []
  | .ld_H_iHL => .op 0x66#8 .load8 8 1 []
  | .ld_H_A => .op 0x67#8 .load8 4 1 []
  | .ld_L_B => .op 0x68#8 .load8 4 1 []
  | .ld_L_C => .op 0x69#8 .load8 4 1 []
  | .ld_L_D => .op 0x6A#8 .load8 4 1 []
  | .ld_L_E => .op 0x6B#8 .load8 4 1 []
  | .ld_L_H => .op 0x6C#8 .load8 4 1 []
  | .ld_L_L => .op 0x6D#8 .load8 4 1 []
  | .ld_L_iHL => .op 0x6E#8 .load8 8 1 []
  | .ld_L_A => .op 0x6F#8 .load8 4 1 []
  | .ld_iHL_B => .op 0x70#8 .load8 8 1 []
  | .ld_iHL_C => .op 0x71#8 .load8 8 1 []
  | .ld_iHL_D => .op 0x72#8 .load8 8 1 []
  | .ld_iHL_E => .op 0x73#8 .load8 8 1 []
  | .ld_iHL_H => .op 0x74#8 .load8 8 1 []
  | .ld_iHL_L => .op 0x75#8 .load8 8 1 []
  | .halt => .op 0x76#8 .system 4 1 []
  | .ld_iHL_A => .op 0x77#8 .load8 8 1 []
  | .ld_A_B => .op 0x78#8 .load8 4 1 []
  | .ld_A_C => .op 0x79#8 .load8 4 1 []
  | .ld_A_D => .op 0x7A#8 .load8 4 1 []
  | .ld_A_E => .op 0x7B#8 .load8 4 1 []
  | .ld_A_H => .op 0x7C#8 .load8 4 1 []
  | .ld_A_L => .op 0x7D#8 .load8 4 1 []
  | .ld_A_iHL => .op 0x7E#8 .load8 8 1 []
  | .ld_A_A => .op 0x7F#8 .load8 4 1 []
  | .add_A_B => .op 0x80#8 .alu8 4 1 []
  | .add_A_C => .op 0x81#8 .alu8 4 1 []
  | .add_A_D => .op 0x82#8 .alu8 4 1 []
  | .add_A_E => .op 0x83#8 .alu8 4 1 []
  | .add_A_H => .op 0x84#8 .alu8 4 1 []
  | .add_A_L => .op 0x85#8 .alu8 4 1 []
  | .add_A_iHL => .op 0x86#8 .alu8 8 1 []
  | .add_A_A => .op 0x87#8 .alu8 4 1 []
  | .adc_A_B => .op 0x88#8 .alu8 4 1 []
  | .adc_A_C => .op 0x89#8 .alu8 4 1 []
  | .adc_A_D => .op 0x8A#8 .alu8 4 1 []
  | .adc_A_E => .op 0x8B#8 .alu8 4 1 []
  | .adc_A_H => .op 0x8C#8 .alu8 4 1 []
  | .adc_A_L => .op 0x8D#8 .alu8 4 1 []
  | .adc_A_iHL => .op 0x8E#8 .alu8 8 1 []
  | .adc_A_A => .op 0x8F#8 .alu8 4 1 []
  | .sub_A_B => .op 0x90#8 .alu8 4 1 []
  | .sub_A_C => .op 0x91#8 .alu8 4 1 []
  | .sub_A_D => .op 0x92#8 .alu8 4 1 []
  | .sub_A_E => .op 0x93#8 .alu8 4 1 []
  | .sub_A_H => .op 0x94#8 .alu8 4 1 []
  | .sub_A_L => .op 0x95#8 .alu8 4 1 []
  | .sub_A_iHL => .op 0x96#8 .alu8 8 1 []
  | .sub_A_A => .op 0x97#8 .alu8 4 1 []
  | .sbc_A_B => .op 0x98#8 .alu8 4 1 []
  | .sbc_A_C => .op 0x99#8 .alu8 4 1 []
  | .sbc_A_D => .op 0x9A#8 .alu8 4 1 []
  | .sbc_A_E => .op 0x9B#8 .alu8 4 1 []
  | .sbc_A_H => .op 0x9C#8 .alu8 4 1 []
  | .sbc_A_L => .op 0x9D#8 .alu8 4 1 []
  | .sbc_A_iHL => .op 0x9E#8 .alu8 8 1 []
  | .sbc_A_A => .op 0x9F#8 .alu8 4 1 []
  | .and_A_B => .op 0xA0#8 .alu8 4 1 []
  | .and_A_C => .op 0xA1#8 .alu8 4 1 []
  | .and_A_D => .op 0xA2#8 .alu8 4 1 []
  | .and_A_E => .op 0xA3#8 .alu8 4 1 []
  | .and_A_H => .op 0xA4#8 .alu8 4 1 []
  | .and_A_L => .op 0xA5#8 .alu8 4 1 []
  | .and_A_iHL => .op 0xA6#8 .alu8 8 1 []
  | .and_A_A => .op 0xA7#8 .alu8 4 1 []
  | .xor_A_B => .op 0xA8#8 .alu8 4 1 []
  | .xor_A_C => .op 0xA9#8 .alu8 4 1 []
  | .xor_A_D => .op 0xAA#8 .alu8 4 1 []
  | .xor_A_E => .op 0xAB#8 .alu8 4 1 []
  | .xor_A_H => .op 0xAC#8 .alu8 4 1 []
  | .xor_A_L => .op 0xAD#8 .alu8 4 1 []
  | .xor_A_iHL => .op 0xAE#8 .alu8 8 1 []
  | .xor_A_A => .op 0xAF#8 .alu8 4 1 []
  | .or_A_B => .op 0xB0#8 .alu8 4 1 []
  | .or_A_C => .op 0xB1#8 .alu8 4 1 []
  | .or_A_D => .op 0xB2#8 .alu8 4 1 []
  | .or_A_E => .op 0xB3#8 .alu8 4 1 []
  | .or_A_H => .op 0xB4#8 .alu8 4 1 []
  | .or_A_L => .op 0xB5#8 .alu8 4 1 []
  | .or_A_iHL => .op 0xB6#8 .alu8 8 1 []
  | .or_A_A => .op 0xB7#8 .alu8 4 1 []
  | .cp_A_B => .op 0xB8#8 .alu8 4 1 []
  | .cp_A_C => .op 0xB9#8 .alu8 4 1 []
  | .cp_A_D => .op 0xBA#8 .alu8 4 1 []
  | .cp_A_E => .op 0xBB#8 .alu8 4 1 []
  | .cp_A_H => .op 0xBC#8 .alu8 4 1 []
  | .cp_A_L => .op 0xBD#8 .alu8 4 1 []
  | .cp_A_iHL => .op 0xBE#8 .alu8 8 1 []
  | .cp_A_A => .op 0xBF#8 .alu8 4 1 []
  | .ret_NZ => .jump 0xC0#8 20 (some 8) 1 []
  | .pop_BC => .op 0xC1#8 .stack 12 1 []
  | .jp_NZ_a16 a => .jump 0xC2#8 16 (some 12) 3 [loByte a, hiByte a]
  | .jp_a16 a => .jump 0xC3#8 16 none 3 [loByte a, hiByte a]
  | .call_NZ_a16 a => .jump 0xC4#8 24 (some 12) 3 [loByte a, hiByte a]
  | .push_BC => .op 0xC5#8 .stack 16 1 []
  | .add_A_n8 n => .op 0xC6#8 .alu8 8 2 [n]
  | .rst_00 => .jump 0xC7#8 16 none 1 []
  | .ret_Z => .jump 0xC8#8 20 (some 8) 1 []
  | .ret => .jump 0xC9#8 16 none 1 []
  | .jp_Z_a16 a => .jump 0xCA#8 16 (some 12) 3 [loByte a, hiByte a]
  | .call_Z_a16 a => .jump 0xCC#8 24 (some 12) 3 [loByte a, hiByte a]
  | .call_a16 a => .jump 0xCD#8 24 none 3 [loByte a, hiByte a]
  | .adc_A_n8 n => .op 0xCE#8 .alu8 8 2 [n]
  | .rst_08 => .jump 0xCF#8 16 none 1 []
  | .ret_NC => .jump 0xD0#8 20 (some 8) 1 []
  | .pop_DE => .op 0xD1#8 .stack 12 1 []
  | .jp_NC_a16 a => .jump 0xD2#8 16 (some 12) 3 [loByte a, hiByte a]
  | .undefinedKey key => ⟨.plain key, [], none⟩
  | .call_NC_a16 a => .jump 0xD4#8 24 (some 12) 3 [loByte a, hiByte a]
  | .push_DE => .op 0xD5#8 .stack 16 1 []
  | .sub_A_n8 n => .op 0xD6#8 .alu8 8 2 [n]
  | .rst_10 => .jump 0xD7#8 16 none 1 []
  | .ret_C => .jump 0xD8#8 20 (some 8) 1 []
  | .reti => .jump 0xD9#8 16 none 1 []
  | .jp_C_a16 a => .jump 0xDA#8 16 (some 12) 3 [loByte a, hiByte a]
  | .call_C_a16 a => .jump 0xDC#8 24 (some 12) 3 [loByte a, hiByte a]
  | .sbc_A_n8 n => .op 0xDE#8 .alu8 8 2 [n]
  | .rst_18 => .jump 0xDF#8 16 none 1 []
  | .ldh_ia8_A a => .op 0xE0#8 .load8 12 2 [a]
  | .pop_HL => .op 0xE1#8 .stack 12 1 []
  | .ld_iC_A => .op 0xE2#8 .load8 8 1 []
  | .push_HL => .op 0xE5#8 .stack 16 1 []
  | .and_A_n8 n => .op 0xE6#8 .alu8 8 2 [n]
  | .rst_20 => .jump 0xE7#8 16 none 1 []
  | .add_SP_e8 e => .op 0xE8#8 .alu16 16 2 [e]
  | .jp_HL => .jump 0xE9#8 4 none 1 []
  | .ld_ia16_A a => .op 0xEA#8 .load8 16 3 [loByte a, hiByte a]
  | .escape_ED xx => ⟨.extended 0xED#8 xx, [], none⟩
  | .xor_A_n8 n => .op 0xEE#8 .alu8 8 2 [n]
  | .rst_28 => .jump 0xEF#8 16 none 1 []
  | .ldh_A_ia8 a => .op 0xF0#8 .load8 12 2 [a]
  | .pop_AF => .op 0xF1#8 .stack 12 1 []
  | .ld_A_iC => .op 0xF2#8 .load8 8 1 []
  | .di => .op 0xF3#8 .system 4 1 []
  | .push_AF => .op 0xF5#8 .stack 16 1 []
  | .or_A_n8 n => .op 0xF6#8 .alu8 8 2 [n]
  | .rst_30 => .jump 0xF7#8 16 none 1 []
  | .ld_HL_SPe8 e => .op 0xF8#8 .alu16 12 2 [e]
  | .ld_SP_HL => .op 0xF9#8 .load16 8 1 []
  | .ld_A_ia16 a => .op 0xFA#8 .load8 16 3 [loByte a, hiByte a]
  | .ei => .op 0xFB#8 .system 4 1 []
  | .cp_A_n8 n => .op 0xFE#8 .alu8 8 2 [n]
  | .rst_38 => .jump 0xFF#8 16 none 1 []
  | .rlc_B => .cb 0x00#8 .cbShift 8
  | .rlc_C => .cb 0x01#8 .cbShift 8
  | .rlc_D => .cb 0x02#8 .cbShift 8
  | .rlc_E => .cb 0x03#8 .cbShift 8
  | .rlc_H => .cb 0x04#8 .cbShift 8
  | .rlc_L => .cb 0x05#8 .cbShift 8
  | .rlc_iHL => .cb 0x06#8 .cbShift 16
  | .rlc_A => .cb 0x07#8 .cbShift 8
  | .rrc_B => .cb 0x08#8 .cbShift 8
  | .rrc_C => .cb 0x09#8 .cbShift 8
  | .rrc_D => .cb 0x0A#8 .cbShift 8
  | .rrc_E => .cb 0x0B#8 .cbShift 8
  | .rrc_H => .cb 0x0C#8 .cbShift 8
  | .rrc_L => .cb 0x0D#8 .cbShift 8
  | .rrc_iHL => .cb 0x0E#8 .cbShift 16
  | .rrc_A => .cb 0x0F#8 .cbShift 8
  | .rl_B => .cb 0x10#8 .cbShift 8
  | .rl_C => .cb 0x11#8 .cbShift 8
  | .rl_D => .cb 0x12#8 .cbShift 8
  | .rl_E => .cb 0x13#8 .cbShift 8
  | .rl_H => .cb 0x14#8 .cbShift 8
  | .rl_L => .cb 0x15#8 .cbShift 8
  | .rl_iHL => .cb 0x16#8 .cbShift 16
  | .rl_A => .cb 0x17#8 .cbShift 8
  | .rr_B => .cb 0x18#8 .cbShift 8
  | .rr_C => .cb 0x19#8 .cbShift 8
  | .rr_D => .cb 0x1A#8 .cbShift 8
  | .rr_E => .cb 0x1B#8 .cbShift 8
  | .rr_H => .cb 0x1C#8 .cbShift 8
  | .rr_L => .cb 0x1D#8 .cbShift 8
  | .rr_iHL => .cb 0x1E#8 .cbShift 16
  | .rr_A => .cb 0x1F#8 .cbShift 8
  | .sla_B => .cb 0x20#8 .cbShift 8
  | .sla_C => .cb 0x21#8 .cbShift 8
  | .sla_D => .cb 0x22#8 .cbShift 8
  | .sla_E => .cb 0x23#8 .cbShift 8
  | .sla_H => .cb 0x24#8 .cbShift 8
  | .sla_L => .cb 0x25#8 .cbShift 8
  | .sla_iHL => .cb 0x26#8 .cbShift 16
  | .sla_A => .cb 0x27#8 .cbShift 8
  | .sra_B => .cb 0x28#8 .cbShift 8
  | .sra_C => .cb 0x29#8 .cbShift 8
  | .sra_D => .cb 0x2A#8 .cbShift 8
  | .sra_E => .cb 0x2B#8 .cbShift 8
  | .sra_H => .cb 0x2C#8 .cbShift 8
  | .sra_L => .cb 0x2D#8 .cbShift 8
  | .sra_iHL => .cb 0x2E#8 .cbShift 16
  | .sra_A => .cb 0x2F#8 .cbShift 8
  | .swap_B => .cb 0x30#8 .cbShift 8
  | .swap_C => .cb 0x31#8 .cbShift 8
  | .swap_D => .cb 0x32#8 .cbShift 8
  | .swap_E => .cb 0x33#8 .cbShift 8
  | .swap_H => .cb 0x34#8 .cbShift 8
  | .swap_L => .cb 0x35#8 .cbShift 8
  | .swap_iHL => .cb 0x36#8 .cbShift 16
  | .swap_A => .cb 0x37#8 .cbShift 8
  | .srl_B => .cb 0x38#8 .cbShift 8
  | .srl_C => .cb 0x39#8 .cbShift 8
  | .srl_D => .cb 0x3A#8 .cbShift 8
  | .srl_E => .cb 0x3B#8 .cbShift 8
  | .srl_H => .cb 0x3C#8 .cbShift 8
  | .srl_L => .cb 0x3D#8 .cbShift 8
  | .srl_iHL => .cb 0x3E#8 .cbShift 16
  | .srl_A => .cb 0x3F#8 .cbShift 8
  | .bit_0_B => .cb 0x40#8 .cbBit 8
  | .bit_0_C => .cb 0x41#8 .cbBit 8
  | .bit_0_D => .cb 0x42#8 .cbBit 8
  | .bit_0_E => .cb 0x43#8 .cbBit 8
  | .bit_0_H => .cb 0x44#8 .cbBit 8
  | .bit_0_L => .cb 0x45#8 .cbBit 8
  | .bit_0_iHL => .cb 0x46#8 .cbBit 12
  | .bit_0_A => .cb 0x47#8 .cbBit 8
  | .bit_1_B => .cb 0x48#8 .cbBit 8
  | .bit_1_C => .cb 0x49#8 .cbBit 8
  | .bit_1_D => .cb 0x4A#8 .cbBit 8
  | .bit_1_E => .cb 0x4B#8 .cbBit 8
  | .bit_1_H => .cb 0x4C#8 .cbBit 8
  | .bit_1_L => .cb 0x4D#8 .cbBit 8
  | .bit_1_iHL => .cb 0x4E#8 .cbBit 12
  | .bit_1_A => .cb 0x4F#8 .cbBit 8
  | .bit_2_B => .cb 0x50#8 .cbBit 8
  | .bit_2_C => .cb 0x51#8 .cbBit 8
  | .bit_2_D => .cb 0x52#8 .cbBit 8
  | .bit_2_E => .cb 0x53#8 .cbBit 8
  | .bit_2_H => .cb 0x54#8 .cbBit 8
  | .bit_2_L => .cb 0x55#8 .cbBit 8
  | .bit_2_iHL => .cb 0x56#8 .cbBit 12
  | .bit_2_A => .cb 0x57#8 .cbBit 8
  | .bit_3_B => .cb 0x58#8 .cbBit 8
  | .bit_3_C => .cb 0x59#8 .cbBit 8
  | .bit_3_D => .cb 0x5A#8 .cbBit 8
  | .bit_3_E => .cb 0x5B#8 .cbBit 8
  | .bit_3_H => .cb 0x5C#8 .cbBit 8
  | .bit_3_L => .cb 0x5D#8 .cbBit 8
  | .bit_3_iHL => .cb 0x5E#8 .cbBit 12
  | .bit_3_A => .cb 0x5F#8 .cbBit 8
  | .bit_4_B => .cb 0x60#8 .cbBit 8
  | .bit_4_C => .cb 0x61#8 .cbBit 8
  | .bit_4_D => .cb 0x62#8 .cbBit 8
  | .bit_4_E => .cb 0x63#8 .cbBit 8
  | .bit_4_H => .cb 0x64#8 .cbBit 8
  | .bit_4_L => .cb 0x65#8 .cbBit 8
  | .bit_4_iHL => .cb 0x66#8 .cbBit 12
  | .bit_4_A => .cb 0x67#8 .cbBit 8
  | .bit_5_B => .cb 0x68#8 .cbBit 8
  | .bit_5_C => .cb 0x69#8 .cbBit 8
  | .bit_5_D => .cb 0x6A#8 .cbBit 8
  | .bit_5_E => .cb 0x6B#8 .cbBit 8
  | .bit_5_H => .cb 0x6C#8 .cbBit 8
  | .bit_5_L => .cb 0x6D#8 .cbBit 8
  | .bit_5_iHL => .cb 0x6E#8 .cbBit 12
  | .bit_5_A => .cb 0x6F#8 .cbBit 8
  | .bit_6_B => .cb 0x70#8 .cbBit 8
  | .bit_6_C => .cb 0x71#8 .cbBit 8
  | .bit_6_D => .cb 0x72#8 .cbBit 8
  | .bit_6_E => .cb 0x73#8 .cbBit 8
  | .bit_6_H => .cb 0x74#8 .cbBit 8
  | .bit_6_L => .cb 0x75#8 .cbBit 8
  | .bit_6_iHL => .cb 0x76#8 .cbBit 12
  | .bit_6_A => .cb 0x77#8 .cbBit 8
  | .bit_7_B => .cb 0x78#8 .cbBit 8
  | .bit_7_C => .cb 0x79#8 .cbBit 8
  | .bit_7_D => .cb 0x7A#8 .cbBit 8
  | .bit_7_E => .cb 0x7B#8 .cbBit 8
  | .bit_7_H => .cb 0x7C#8 .cbBit 8
  | .bit_7_L => .cb 0x7D#8 .cbBit 8
  | .bit_7_iHL => .cb 0x7E#8 .cbBit 12
  | .bit_7_A => .cb 0x7F#8 .cbBit 8
  | .res_0_B => .cb 0x80#8 .cbBit 8
  | .res_0_C => .cb 0x81#8 .cbBit 8
  | .res_0_D => .cb 0x82#8 .cbBit 8
  | .res_0_E => .cb 0x83#8 .cbBit 8
  | .res_0_H => .cb 0x84#8 .cbBit 8
  | .res_0_L => .cb 0x85#8 .cbBit 8
  | .res_0_iHL => .cb 0x86#8 .cbBit 16
  | .res_0_A => .cb 0x87#8 .cbBit 8
  | .res_1_B => .cb 0x88#8 .cbBit 8
  | .res_1_C => .cb 0x89#8 .cbBit 8
  | .res_1_D => .cb 0x8A#8 .cbBit 8
  | .res_1_E => .cb 0x8B#8 .cbBit 8
  | .res_1_H => .cb 0x8C#8 .cbBit 8
  | .res_1_L => .cb 0x8D#8 .cbBit 8
  | .res_1_iHL => .cb 0x8E#8 .cbBit 16
  | .res_1_A => .cb 0x8F#8 .cbBit 8
  | .res_2_B => .cb 0x90#8 .cbBit 8
  | .res_2_C => .cb 0x91#8 .cbBit 8
  | .res_2_D => .cb 0x92#8 .cbBit 8
  | .res_2_E => .cb 0x93#8 .cbBit 8
  | .res_2_H => .cb 0x94#8 .cbBit 8
  | .res_2_L => .cb 0x95#8 .cbBit 8
  | .res_2_iHL => .cb 0x96#8 .cbBit 16
  | .res_2_A => .cb 0x97#8 .cbBit 8
  | .res_3_B => .cb 0x98#8 .cbBit 8
  | .res_3_C => .cb 0x99#8 .cbBit 8
  | .res_3_D => .cb 0x9A#8 .cbBit 8
  | .res_3_E => .cb 0x9B#8 .cbBit 8
  | .res_3_H => .cb 0x9C#8 .cbBit 8
  | .res_3_L => .cb 0x9D#8 .cbBit 8
  | .res_3_iHL => .cb 0x9E#8 .cbBit 16
  | .res_3_A => .cb 0x9F#8 .cbBit 8
  | .res_4_B => .cb 0xA0#8 .cbBit 8
  | .res_4_C => .cb 0xA1#8 .cbBit 8
  | .res_4_D => .cb 0xA2#8 .cbBit 8
  | .res_4_E => .cb 0xA3#8 .cbBit 8
  | .res_4_H => .cb 0xA4#8 .cbBit 8
  | .res_4_L => .cb 0xA5#8 .cbBit 8
  | .res_4_iHL => .cb 0xA6#8 .cbBit 16
  | .res_4_A => .cb 0xA7#8 .cbBit 8
  | .res_5_B => .cb 0xA8#8 .cbBit 8
  | .res_5_C => .cb 0xA9#8 .cbBit 8
  | .res_5_D => .cb 0xAA#8 .cbBit 8
  | .res_5_E => .cb 0xAB#8 .cbBit 8
  | .res_5_H => .cb 0xAC#8 .cbBit 8
  | .res_5_L => .cb 0xAD#8 .cbBit 8
  | .res_5_iHL => .cb 0xAE#8 .cbBit 16
  | .res_5_A => .cb 0xAF#8 .cbBit 8
  | .res_6_B => .cb 0xB0#8 .cbBit 8
  | .res_6_C => .cb 0xB1#8 .cbBit 8
  | .res_6_D => .cb 0xB2#8 .cbBit 8
  | .res_6_E => .cb 0xB3#8 .cbBit 8
  | .res_6_H => .cb 0xB4#8 .cbBit 8
  | .res_6_L => .cb 0xB5#8 .cbBit 8
  | .res_6_iHL => .cb 0xB6#8 .cbBit 16
  | .res_6_A => .cb 0xB7#8 .cbBit 8
  | .res_7_B => .cb 0xB8#8 .cbBit 8
  | .res_7_C => .cb 0xB9#8 .cbBit 8
  | .res_7_D => .cb 0xBA#8 .cbBit 8
  | .res_7_E => .cb 0xBB#8 .cbBit 8
  | .res_7_H => .cb 0xBC#8 .cbBit 8
  | .res_7_L => .cb 0xBD#8 .cbBit 8
  | .res_7_iHL => .cb 0xBE#8 .cbBit 16
  | .res_7_A => .cb 0xBF#8 .cbBit 8
  | .set_0_B => .cb 0xC0#8 .cbBit 8
  | .set_0_C => .cb 0xC1#8 .cbBit 8
  | .set_0_D => .cb 0xC2#8 .cbBit 8
  | .set_0_E => .cb 0xC3#8 .cbBit 8
  | .set_0_H => .cb 0xC4#8 .cbBit 8
  | .set_0_L => .cb 0xC5#8 .cbBit 8
  | .set_0_iHL => .cb 0xC6#8 .cbBit 16
  | .set_0_A => .cb 0xC7#8 .cbBit 8
  | .set_1_B => .cb 0xC8#8 .cbBit 8
  | .set_1_C => .cb 0xC9#8 .cbBit 8
  | .set_1_D => .cb 0xCA#8 .cbBit 8
  | .set_1_E => .cb 0xCB#8 .cbBit 8
  | .set_1_H => .cb 0xCC#8 .cbBit 8
  | .set_1_L => .cb 0xCD#8 .cbBit 8
  | .set_1_iHL => .cb 0xCE#8 .cbBit 16
  | .set_1_A => .cb 0xCF#8 .cbBit 8
  | .set_2_B => .cb 0xD0#8 .cbBit 8
  | .set_2_C => .cb 0xD1#8 .cbBit 8
  | .set_2_D => .cb 0xD2#8 .cbBit 8
  | .set_2_E => .cb 0xD3#8 .cbBit 8
  | .set_2_H => .cb 0xD4#8 .cbBit 8
  | .set_2_L => .cb 0xD5#8 .cbBit 8
  | .set_2_iHL => .cb 0xD6#8 .cbBit 16
  | .set_2_A => .cb 0xD7#8 .cbBit 8
  | .set_3_B => .cb 0xD8#8 .cbBit 8
  | .set_3_C => .cb 0xD9#8 .cbBit 8
  | .set_3_D => .cb 0xDA#8 .cbBit 8
  | .set_3_E => .cb 0xDB#8 .cbBit 8
  | .set_3_H => .cb 0xDC#8 .cbBit 8
  | .set_3_L => .cb 0xDD#8 .cbBit 8
  | .set_3_iHL => .cb 0xDE#8 .cbBit 16
  | .set_3_A => .cb 0xDF#8 .cbBit 8
  | .set_4_B => .cb 0xE0#8 .cbBit 8
  | .set_4_C => .cb 0xE1#8 .cbBit 8
  | .set_4_D => .cb 0xE2#8 .cbBit 8
  | .set_4_E => .cb 0xE3#8 .cbBit 8
  | .set_4_H => .cb 0xE4#8 .cbBit 8
  | .set_4_L => .cb 0xE5#8 .cbBit 8
  | .set_4_iHL => .cb 0xE6#8 .cbBit 16
  | .set_4_A => .cb 0xE7#8 .cbBit 8
  | .set_5_B => .cb 0xE8#8 .cbBit 8
  | .set_5_C => .cb 0xE9#8 .cbBit 8
  | .set_5_D => .cb 0xEA#8 .cbBit 8
  | .set_5_E => .cb 0xEB#8 .cbBit 8
  | .set_5_H => .cb 0xEC#8 .cbBit 8
  | .set_5_L => .cb 0xED#8 .cbBit 8
  | .set_5_iHL => .cb 0xEE#8 .cbBit 16
  | .set_5_A => .cb 0xEF#8 .cbBit 8
  | .set_6_B => .cb 0xF0#8 .cbBit 8
  | .set_6_C => .cb 0xF1#8 .cbBit 8
  | .set_6_D => .cb 0xF2#8 .cbBit 8
  | .set_6_E => .cb 0xF3#8 .cbBit 8
  | .set_6_H => .cb 0xF4#8 .cbBit 8
  | .set_6_L => .cb 0xF5#8 .cbBit 8
  | .set_6_iHL => .cb 0xF6#8 .cbBit 16
  | .set_6_A => .cb 0xF7#8 .cbBit 8
  | .set_7_B => .cb 0xF8#8 .cbBit 8
  | .set_7_C => .cb 0xF9#8 .cbBit 8
  | .set_7_D => .cb 0xFA#8 .cbBit 8
  | .set_7_E => .cb 0xFB#8 .cbBit 8
  | .set_7_H => .cb 0xFC#8 .cbBit 8
  | .set_7_L => .cb 0xFD#8 .cbBit 8
  | .set_7_iHL => .cb 0xFE#8 .cbBit 16
  | .set_7_A => .cb 0xFF#8 .cbBit 8

/-- The opcode key (R91). -/
def Instr.opcodeKey (i : Instr) : OpcodeKey := i.tableRow.key

/-- The operand bytes in address order (R90, R95). -/
def Instr.operands (i : Instr) : List Byte := i.tableRow.operands

/-- The record's `byte_length` (R98). An undefined key has none (R106); the loop never reads it there, because the step ends
at the lookup (R100 step 4). -/
def Instr.byteLength (i : Instr) : Nat :=
  match i.tableRow.entry with
  | some r => r.byteLength
  | none => 1

/-- The record's `owns_pc` (R99). -/
def Instr.ownsPc (i : Instr) : Bool :=
  match i.tableRow.entry with
  | some r => r.ownsPc
  | none => false

/-- The bytes of a key in address order (R90). -/
def OpcodeKey.bytes : OpcodeKey → List Byte
  | .plain b => [b]
  | .extended e n => [e, n]

/-- The key as the number the errors record: 8 bits, or `(escape << 8) | next` (R91, R302). -/
def OpcodeKey.number : OpcodeKey → Nat
  | .plain b => b.toNat
  | .extended e n => e.toNat * 256 + n.toNat

/-- How many bytes the key has (R91). -/
def Instr.keyLength (i : Instr) : Nat := i.opcodeKey.bytes.length

/-- The bytes of an instruction in address order: its key, then its operand bytes (R90). -/
def encode (i : Instr) : List Byte := i.opcodeKey.bytes ++ i.operands

/-- The instruction's length in memory, `key_length + byte_length - 1` (R98, R106). -/
def Instr.length (i : Instr) : Nat := i.keyLength + i.byteLength - 1

/-- Why a list of bytes holds no whole instruction. Every key decodes (an undefined one to the instruction that raises
UndefinedOpcode), so the one reason is that the list ends early. -/
inductive DecodeError where
  | truncated (needed given : Nat)
deriving DecidableEq, Repr

/-- The bytes after the first `n`, where there are so many. -/
def dropBytes : Nat → List Byte → Option (List Byte)
  | 0, bytes => some bytes
  | _ + 1, [] => none
  | n + 1, _ :: rest => dropBytes n rest

/-- Decode one instruction from the front of a list of bytes; the bytes after it are returned. -/
def decode : List Byte → Except DecodeError (Instr × List Byte)
  | [] => .error (.truncated 1 0)
  | b0 :: rest =>
    let i := decodeBytes b0 (rest.getD 0 0) (rest.getD 1 0)
    match dropBytes i.length (b0 :: rest) with
    | some after => .ok (i, after)
    | none => .error (.truncated i.length (rest.length + 1))

/-! ## Words as spec/opcode_table.json numbers them -/

/-- The three bytes, first at the lowest address, of a table word of `nbits` bits; bytes above the word are 0. The table
numbers a two-byte key as the key number `(escape << 8) | next` (R91), with the escape byte in bits 15..8; any other word has
its first byte in bits 7..0. Log entry 8. -/
def tableBytes (nbits w : Nat) : Byte × Byte × Byte :=
  let low := BitVec.ofNat 8 w
  let mid := if nbits ≤ 8 then 0#8 else BitVec.ofNat 8 (w / 256)
  let high := if nbits ≤ 16 then 0#8 else BitVec.ofNat 8 (w / 65536)
  if nbits = 16 ∧ isEscape mid then (mid, low, 0#8) else (low, mid, high)

/-- The instruction the decoder reads from a table word. -/
def decodeTableWord (nbits w : Nat) : Option Instr :=
  match tableBytes nbits w with
  | (b0, b1, b2) =>
    match decode [b0, b1, b2] with
    | .ok (i, _) => some i
    | .error _ => none

end Sys2Proof
end

