-- ==== Sys2Proof/Machine/State.lean ====
section
/-! DEFINITION. The state of the block, `CpuState = (regs, mem, queue, run, retired)` (10_state.md, its head), as plain data;
the fatal errors it can end in; the reasons no step is enabled; and the state after reset (R330). -/

namespace Sys2Proof.Machine

/-- The register file (R20, R21): eight 8-bit registers, SP and PC. The pairs have no storage of their own (R22). -/
structure RegFile where
  a : Byte
  f : Byte
  b : Byte
  c : Byte
  d : Byte
  e : Byte
  h : Byte
  l : Byte
  sp : Word
  pc : Word
deriving DecidableEq, Repr

/-- The storage of the memory bus (R60): (canonical address, byte) pairs with strictly rising addresses. A cell that is not
listed holds 0x00 (R67), and no listed cell does: `Memory.wf` in Machine/Ops.lean says this form. -/
abbrev Memory := List Host.Cell

/-- The effects a deferred action can have (R40). -/
inductive DeferredEffect where
  | disableIE
  | enableIE
deriving DecidableEq, Repr

/-- An entry of the deferred-action queue (R40). -/
structure Deferred where
  countdown : Nat
  effect : DeferredEffect
deriving DecidableEq, Repr

/-- The five fatal errors with what each records (R300). -/
inductive FatalError where
  /-- A bus access outside the bounds of R61; it records the start address. -/
  | addressOutOfRange (addr : Int)
  /-- A key with no table entry (R101, R102, R302). -/
  | undefinedOpcode (key : OpcodeKey)
  /-- `schedule` with a countdown that is not positive (R40, R303). -/
  | invalidDeferredAction (countdown : Int)
  /-- The effects of DAA, HALT and SWAP (HL) (R104, R304). -/
  | unimplementedOpcode (key : OpcodeKey)
  /-- The ROM-loading collaborator's report; the core never raises it (R305). -/
  | romValidationError (report : String)
deriving DecidableEq, Repr

/-- The error codes of R300 (92_eei_decisions.md D18). -/
def FatalError.code : FatalError → Nat
  | .addressOutOfRange _ => 1
  | .undefinedOpcode _ => 2
  | .invalidDeferredAction _ => 3
  | .unimplementedOpcode _ => 4
  | .romValidationError _ => 5

/-- The run state (R42). -/
inductive RunState where
  | running
  | stopped
  | terminated (err : FatalError)
deriving DecidableEq, Repr

/-- The state. `queue` is in scheduling order (R40, D23). `freeDraws` is the model's own: the counter that the free values of
a Terminated state are drawn with (log entries 1 and 2). -/
structure State where
  regs : RegFile
  mem : Memory
  queue : List Deferred
  run : RunState
  retired : Nat
  freeDraws : Nat
deriving DecidableEq, Repr

/-- Why no step is enabled. `step` alone raises these, before anything is fetched; no instruction's meaning ends in one. -/
inductive Fault where
  /-- `run = Stopped` and the host has not called wake (R42, R284, R323). Safe: the spec enables no step here. This is no
  error of R300; the machine can go on from `State.wake`. -/
  | stoppedUntilWake
  /-- `run = Terminated(err)`: no further step exists (R42, R311). Safe: the spec enables no step here. -/
  | terminated (err : FatalError)
deriving DecidableEq, Repr

/-- Why an instruction has no meaning in the model. -/
inductive Refusal where
  /-- Raised by `exec` for an instruction whose meaning is not written; no arm does. Safe: nothing is said of the
  instruction. -/
  | notModelled (mnemonic : String)
deriving DecidableEq, Repr

/-- Power-on reset before any image is loaded (R46, R47, R330). -/
def State.reset : State where
  regs :=
    { a := 0x01#8, f := 0xB0#8, b := 0x00#8, c := 0x0D#8, d := 0x00#8, e := 0xD8#8, h := 0x01#8, l := 0x4D#8,
      sp := 0xFFFE#16, pc := 0x0100#16 }
  mem := []
  queue := []
  run := .running
  retired := 0
  freeDraws := 0

end Sys2Proof.Machine
end

