-- ==== Sys2Proof/Machine/Ops.lean ====
section
/-! DEFINITION. The named operations: the memory bus (20_memory.md), the register writes (R12, R20 to R23), the deferred-action
queue (R40, R41), the entry into a fatal error (R309) with the leaving of Stopped (R323), and the stack (R75, R76). -/

namespace Sys2Proof.Machine

/-- What a meaning answers. -/
abbrev Result := Host.Outcome State Fault Refusal

/-! ## Storage cells -/

/-- What a cell that no entry lists holds: memory is zero-filled at reset (R67). -/
def Memory.unlisted : Byte := 0x00#8

/-- The byte of the cell with this canonical address. -/
def Memory.cell : Memory → Nat → Byte
  | [], _ => Memory.unlisted
  | (k, v) :: rest, a => if k = a then v else Memory.cell rest a

/-- Every entry but those for one cell. -/
def Memory.without (a : Nat) (m : Memory) : Memory := m.filter fun c => c.1 != a

/-- An entry put in front of the first greater address. -/
def Memory.insertCell (a : Nat) (v : Byte) : Memory → Memory
  | [] => [(a, v)]
  | (k, w) :: rest => if a < k then (a, v) :: (k, w) :: rest else (k, w) :: Memory.insertCell a v rest

/-- Store a byte in the cell with this canonical address. The form of `Memory.wf` is kept: an entry that would hold what an
unlisted cell holds is left out. -/
def Memory.setCell (m : Memory) (a : Nat) (v : Byte) : Memory :=
  if v = Memory.unlisted then Memory.without a m else Memory.insertCell a v (Memory.without a m)

/-- Echo canonicalization (R62). -/
def canon (a : Nat) : Nat := if 0xE000 ≤ a ∧ a ≤ 0xFDFF then a - 0x2000 else a

/-- The addresses that name a storage cell of their own (R60, R62). -/
def isCell (a : Nat) : Bool := decide (a ≤ 0xFFFF) && canon a == a

/-- The canonical form above a lower bound: addresses rise strictly, each names a cell, no entry holds the unlisted value. -/
def Memory.wfFrom : Nat → Memory → Bool
  | _, [] => true
  | lo, (k, v) :: rest => decide (lo ≤ k) && isCell k && v != Memory.unlisted && Memory.wfFrom (k + 1) rest

/-- The canonical form of memory: equal memories are equal lists. -/
def Memory.wf (m : Memory) : Bool := Memory.wfFrom 0 m

/-! ## The memory bus -/

/-- `read_byte(a)` (R61, R63). -/
def Memory.readByte (m : Memory) (a : Int) : Except FatalError Byte :=
  if 0 ≤ a ∧ a ≤ 65535 then .ok (m.cell (canon a.toNat)) else .error (.addressOutOfRange a)

/-- `write_byte(a, v)`, which truncates `v` to 8 bits (R61, R64). -/
def Memory.writeByte (m : Memory) (a v : Int) : Except FatalError Memory :=
  if 0 ≤ a ∧ a ≤ 65535 then .ok (m.setCell (canon a.toNat) (BitVec.ofInt 8 v)) else .error (.addressOutOfRange a)

/-- `read_word(a)`: little-endian, each byte address canonicalized on its own (R61, R65, R69). -/
def Memory.readWord (m : Memory) (a : Int) : Except FatalError Word :=
  if 0 ≤ a ∧ a ≤ 65534 then .ok (wordOf (m.cell (canon (a.toNat + 1))) (m.cell (canon a.toNat)))
  else .error (.addressOutOfRange a)

/-- `write_word(a, v)`: the bounds check comes before both writes (R61, R66). -/
def Memory.writeWord (m : Memory) (a : Int) (v : Word) : Except FatalError Memory :=
  if 0 ≤ a ∧ a ≤ 65534 then
    .ok ((m.setCell (canon a.toNat) (loByte v)).setCell (canon (a.toNat + 1)) (hiByte v))
  else .error (.addressOutOfRange a)

/-- The integer a byte stands for in two's complement (R11 `signed8`). -/
def signed8 (v : Byte) : Int := if v.toNat < 0x80 then v.toNat else v.toNat - 0x100

/-- `read(addr, as: signed)` of 8 bits (R68). -/
def Memory.readSigned8 (m : Memory) (a : Int) : Except FatalError Int :=
  match m.readByte a with
  | .ok v => .ok (signed8 v)
  | .error e => .error e

/-- `read(addr, as: signed)` of 16 bits (R68). No instruction uses it. -/
def Memory.readSigned16 (m : Memory) (a : Int) : Except FatalError Int :=
  match m.readWord a with
  | .ok v => .ok (if v.toNat < 0x8000 then v.toNat else v.toNat - 0x10000)
  | .error e => .error e

/-- `read_byte` at an address that an instruction computed. Such an address is in range, so the read cannot fail (R61, R73);
`Laws.readByte_of_word` says that this is `Memory.readByte` there. -/
def Memory.peek (m : Memory) (a : Word) : Byte := m.cell (canon a.toNat)

/-- `write_byte` at an address that an instruction computed (R61, R64, R73); see `Laws.writeByte_of_word`. -/
def Memory.poke (m : Memory) (a : Word) (v : Byte) : Memory := m.setCell (canon a.toNat) v

/-! ## Updates of the state, one for each part of it -/

/-- Write an 8-bit register other than F (R12, R20). -/
def State.setReg8 (s : State) (r : Reg8) (v : Byte) : State :=
  match r with
  | .a => { s with regs := { s.regs with a := v } }
  | .b => { s with regs := { s.regs with b := v } }
  | .c => { s with regs := { s.regs with c := v } }
  | .d => { s with regs := { s.regs with d := v } }
  | .e => { s with regs := { s.regs with e := v } }
  | .h => { s with regs := { s.regs with h := v } }
  | .l => { s with regs := { s.regs with l := v } }

/-- Write F: bits 3..0 are stored as 0 (R12, R23, D19). -/
def State.setF (s : State) (v : Byte) : State := { s with regs := { s.regs with f := v &&& 0xF0#8 } }

/-- Write SP (R21). -/
def State.setSp (s : State) (v : Word) : State := { s with regs := { s.regs with sp := v } }

/-- Write PC (R21). -/
def State.setPc (s : State) (v : Word) : State := { s with regs := { s.regs with pc := v } }

/-- Replace memory. -/
def State.setMem (s : State) (m : Memory) : State := { s with mem := m }

/-- Replace the deferred-action queue. -/
def State.setQueue (s : State) (q : List Deferred) : State := { s with queue := q }

/-- Replace the run state. -/
def State.setRun (s : State) (r : RunState) : State := { s with run := r }

/-- Replace the retirement counter. -/
def State.setRetired (s : State) (n : Nat) : State := { s with retired := n }

/-- Add to PC, modulo 65536 (R21, R26). -/
def State.advancePc (s : State) (n : Nat) : State := s.setPc (s.regs.pc + BitVec.ofNat 16 n)

/-- The byte at an address (R13). -/
def State.read8 (s : State) (a : Word) : Byte := s.mem.peek a

/-- Store a byte at an address (R13). -/
def State.write8 (s : State) (a : Word) (v : Byte) : State := s.setMem (s.mem.poke a v)

/-- Store a word at an address (R13, R66). -/
def State.write16 (s : State) (a v : Word) : Except FatalError State :=
  match s.mem.writeWord a.toNat v with
  | .ok m => .ok (s.setMem m)
  | .error e => .error e

/-! ## Taking a fatal error, and leaving Stopped -/

/-- The registers of a Terminated state: free values (R310, D15), but for the low nibble of F, which is always 0 (R23). Log
entry 1. -/
def unspecifiedRegs (draw : Nat) : RegFile where
  a := Config.unspecifiedReg8 draw 0
  f := Config.unspecifiedReg8 draw 1 &&& 0xF0#8
  b := Config.unspecifiedReg8 draw 2
  c := Config.unspecifiedReg8 draw 3
  d := Config.unspecifiedReg8 draw 4
  e := Config.unspecifiedReg8 draw 5
  h := Config.unspecifiedReg8 draw 6
  l := Config.unspecifiedReg8 draw 7
  sp := Config.unspecifiedReg16 draw 0
  pc := Config.unspecifiedReg16 draw 1

/-- The memory that a list of byte writes into zeroed memory leaves. -/
def Memory.ofWrites (cells : List Host.Cell) : Memory :=
  cells.foldl (fun m c => m.poke (BitVec.ofNat 16 c.1) c.2) []

/-- The memory of a Terminated state: a free value (R310, D15). Log entry 1. -/
def unspecifiedMemory (draw : Nat) : Memory := Memory.ofWrites (Config.unspecifiedCells draw)

/-- ENTRY INTO A FATAL ERROR (R14 `raise`, R309): the step stops, `run <- Terminated(err)` with the error's record, no vector
is taken and nothing is saved. Registers and memory are then unspecified (R310). The queue and the retirement counter stay:
the queue is not ticked and the instruction does not retire (R100, R310). There is no return from it (R311). -/
def State.raise (s : State) (err : FatalError) : State where
  regs := unspecifiedRegs s.freeDraws
  mem := unspecifiedMemory s.freeDraws
  queue := s.queue
  run := .terminated err
  retired := s.retired
  freeDraws := s.freeDraws + 1

/-- The host's `wake()`, the only way out of Stopped: enabled when `run = Stopped`, it changes nothing but `run` (R323,
D25). -/
def State.wake (s : State) : Option State :=
  match s.run with
  | .stopped => some (s.setRun .running)
  | .running => none
  | .terminated _ => none

/-- The end of an effect that can raise: the state it leaves, or the entry into the error it raised (R14, R309). -/
def finish (s : State) : Except FatalError State → Result
  | .ok t => .next t
  | .error e => .next (s.raise e)

/-! ## The deferred-action queue -/

/-- `schedule(n, act)` (R40, R303). -/
def schedule (n : Int) (act : DeferredEffect) (s : State) : Except FatalError State :=
  if n ≤ 0 then .error (.invalidDeferredAction n)
  else .ok (s.setQueue (s.queue ++ [⟨n.toNat, act⟩]))

/-- The address of the interrupt-enable byte IE (R32, R73). -/
def addrIE : Word := 0xFFFF#16

/-- The byte a deferred action writes to IE (R40). -/
def DeferredEffect.ieValue : DeferredEffect → Byte
  | .disableIE => 0x00#8
  | .enableIE => Config.eiIeValue

/-- Fire the effects of entries in order (R40, D23). -/
def fireAll : List Deferred → State → State
  | [], s => s
  | e :: rest, s => fireAll rest (s.write8 addrIE e.effect.ieValue)

/-- The queue one tick later, with the entries that reached 0 (R41). -/
def countDown (q : List Deferred) : List Deferred := q.map fun e => ⟨e.countdown - 1, e.effect⟩

/-- `tick()`: every countdown is lowered by 1, and every entry that reaches 0 fires and is removed in the same tick (R41). -/
def tick (s : State) : State :=
  let q := countDown s.queue
  fireAll (q.filter fun e => e.countdown == 0) (s.setQueue (q.filter fun e => e.countdown != 0))

/-! ## The stack -/

/-- `push16(v)`: SP is lowered before the write (R75, R27). -/
def push16 (v : Word) (s : State) : Except FatalError State :=
  let t := s.setSp (s.regs.sp - 2#16)
  t.write16 t.regs.sp v

/-- `pop16()`: SP is raised after the read (R76, R27). -/
def pop16 (s : State) : Except FatalError (Word × State) :=
  match s.mem.readWord s.regs.sp.toNat with
  | .ok v => .ok (v, s.setSp (s.regs.sp + 2#16))
  | .error e => .error e

end Sys2Proof.Machine
end

