-- ==== Sys2Proof/Machine/Flags.lean ====
section
/-! DEFINITION. The flags (10_state.md R23, R28, R29) and every computation that sets them: the 8-bit group
(41_alu8.md), the 16-bit adds (42_alu16.md), rotates, shifts and SWAP (43_rotate_shift_bit.md). Sums and differences are taken
on unbounded integers and then reduced, as the spec writes them (R11). -/

namespace Sys2Proof.Machine

/-! ## The bits of F -/

/-- F.Z, bit 7 (R28). -/
def State.flagZ (s : State) : Bool := s.regs.f.getLsbD 7

/-- F.N, bit 6 (R28). -/
def State.flagN (s : State) : Bool := s.regs.f.getLsbD 6

/-- F.H, bit 5 (R28). -/
def State.flagH (s : State) : Bool := s.regs.f.getLsbD 5

/-- F.C, bit 4 (R28). -/
def State.flagC (s : State) : Bool := s.regs.f.getLsbD 4

/-- A bit as the number 0 or 1. -/
def bitNat (b : Bool) : Nat := if b then 1 else 0

/-- F with these four flags and bits 3..0 zero (R23, R28). -/
def packF (z n h c : Bool) : Byte :=
  BitVec.ofNat 8 (bitNat z * 0x80 + bitNat n * 0x40 + bitNat h * 0x20 + bitNat c * 0x10)

/-- Write all four flags. An instruction that leaves one unchanged passes its old value (R12, R28). -/
def State.setFlags (s : State) (z n h c : Bool) : State := s.setF (packF z n h c)

/-! ## 8-bit results -/

/-- An 8-bit result with the four flags. -/
structure Alu8 where
  value : Byte
  z : Bool
  n : Bool
  h : Bool
  c : Bool
deriving DecidableEq, Repr

/-- The xor rule for the half-carry out of bit 3, or the borrow from bit 4 (R160, R162). -/
def halfCarry8 (old v new : Byte) : Bool := ((old ^^^ v ^^^ new) &&& 0x10#8) != 0#8

/-- ADD and ADC (R160, R161). -/
def add8 (old v : Byte) (cin : Bool) : Alu8 :=
  let sum := old.toNat + v.toNat + bitNat cin
  let new := BitVec.ofNat 8 sum
  ⟨new, new == 0#8, false, halfCarry8 old v new, decide (sum ≥ 256)⟩

/-- SUB, SBC and CP (R162, R163, R167). -/
def sub8 (old v : Byte) (cin : Bool) : Alu8 :=
  let diff : Int := old.toNat - v.toNat - bitNat cin
  let new := BitVec.ofInt 8 diff
  ⟨new, new == 0#8, true, halfCarry8 old v new, decide (diff < 0)⟩

/-- AND, OR, XOR with the H and C they leave (R164 to R166). -/
def logic8 (new : Byte) (h : Bool) : Alu8 := ⟨new, new == 0#8, false, h, false⟩

/-- The two-operand ALU group on A's value, the operand and the carry flag (R160 to R167). -/
def alu8 (op : AluOp) (old v : Byte) (cin : Bool) : Alu8 :=
  match op with
  | .add => add8 old v false
  | .adc => add8 old v cin
  | .sub => sub8 old v false
  | .sbc => sub8 old v cin
  | .and => logic8 (old &&& v) true
  | .xor => logic8 (old ^^^ v) false
  | .or => logic8 (old ||| v) false
  | .cp => sub8 old v false

/-- INC of a byte; `c` is the carry flag, which INC leaves (R168). -/
def inc8 (old : Byte) (c : Bool) : Alu8 :=
  let new := BitVec.ofNat 8 (old.toNat + 1)
  ⟨new, new == 0#8, false, halfCarry8 old 1#8 new, c⟩

/-- DEC of a byte; `c` is the carry flag, which DEC leaves (R170). -/
def dec8 (old : Byte) (c : Bool) : Alu8 :=
  let new := BitVec.ofInt 8 (old.toNat - 1)
  ⟨new, new == 0#8, true, halfCarry8 old 1#8 new, c⟩

/-! ## 16-bit adds -/

/-- A 16-bit sum with its carries out of bits 11 and 15. -/
structure Add16 where
  value : Word
  h : Bool
  c : Bool
deriving DecidableEq, Repr

/-- The 16-bit add (R190, R193, R194; 90_conflicts.md C7). -/
def add16 (old v : Word) : Add16 :=
  let sum := old.toNat + v.toNat
  let new := BitVec.ofNat 16 sum
  ⟨new, ((old ^^^ v ^^^ new) &&& 0x1000#16) != 0#16, decide (sum ≥ 65536)⟩

/-! ## Rotates, shifts and SWAP -/

/-- Z from the new value, N and H 0, C the bit shifted out (43_rotate_shift_bit.md, its head). -/
def shifted (new : Byte) (out : Bool) : Alu8 := ⟨new, new == 0#8, false, false, out⟩

/-- A bit placed at position `pos`. -/
def bitAt (b : Bool) (pos : Nat) : Byte := BitVec.ofNat 8 (bitNat b) <<< pos

/-- Rotate left circular (R210, R214). -/
def rlc8 (v : Byte) : Alu8 := shifted ((v <<< 1) ||| bitAt (v.getLsbD 7) 0) (v.getLsbD 7)

/-- Rotate right circular (R212, R216). -/
def rrc8 (v : Byte) : Alu8 := shifted ((v >>> 1) ||| bitAt (v.getLsbD 0) 7) (v.getLsbD 0)

/-- Rotate left through carry (R211, R218). -/
def rl8 (v : Byte) (cin : Bool) : Alu8 := shifted ((v <<< 1) ||| bitAt cin 0) (v.getLsbD 7)

/-- Rotate right through carry (R213, R220). -/
def rr8 (v : Byte) (cin : Bool) : Alu8 := shifted ((v >>> 1) ||| bitAt cin 7) (v.getLsbD 0)

/-- Shift left arithmetic (R222). -/
def sla8 (v : Byte) : Alu8 := shifted (v <<< 1) (v.getLsbD 7)

/-- Shift right arithmetic: bit 7 is kept (R224). -/
def sra8 (v : Byte) : Alu8 := shifted ((v >>> 1) ||| (v &&& 0x80#8)) (v.getLsbD 0)

/-- Shift right logical (R226). -/
def srl8 (v : Byte) : Alu8 := shifted (v >>> 1) (v.getLsbD 0)

/-- Exchange the nibbles; C becomes 0 (R228). -/
def swap8 (v : Byte) : Alu8 := shifted (((v &&& 0x0F#8) <<< 4) ||| (v >>> 4)) false

/-- The prefixed rotates and shifts (R214 to R228). -/
def shift8 (op : ShiftOp) (v : Byte) (cin : Bool) : Alu8 :=
  match op with
  | .rlc => rlc8 v
  | .rrc => rrc8 v
  | .rl => rl8 v cin
  | .rr => rr8 v cin
  | .sla => sla8 v
  | .sra => sra8 v
  | .swap => swap8 v
  | .srl => srl8 v

/-! ## Single bits of a byte -/

/-- RES: clear bit b (R232). -/
def clearBit (b : Fin 8) (v : Byte) : Byte := v &&& (0xFF#8 ^^^ (1#8 <<< b.val))

/-- SET: set bit b (R234). -/
def setBit (b : Fin 8) (v : Byte) : Byte := v ||| (1#8 <<< b.val)

/-- Write the flags of an 8-bit result. -/
def State.setFlagsOf (s : State) (r : Alu8) : State := s.setFlags r.z r.n r.h r.c

end Sys2Proof.Machine
end

