-- ==== Sys2Proof/Machine/Operands.lean ====
section
/-! DEFINITION. The operand forms (30_encoding.md R93 to R97): registers, pairs, the byte at HL, the high page, signed
immediates and conditions. -/

namespace Sys2Proof.Machine

/-- Read an 8-bit register (R93). -/
def State.reg8 (s : State) (r : Reg8) : Byte :=
  match r with
  | .a => s.regs.a
  | .b => s.regs.b
  | .c => s.regs.c
  | .d => s.regs.d
  | .e => s.regs.e
  | .h => s.regs.h
  | .l => s.regs.l

/-- The pair AF (R22). -/
def State.af (s : State) : Word := wordOf s.regs.a s.regs.f

/-- The pair BC (R22). -/
def State.bc (s : State) : Word := wordOf s.regs.b s.regs.c

/-- The pair DE (R22). -/
def State.de (s : State) : Word := wordOf s.regs.d s.regs.e

/-- The pair HL (R22). -/
def State.hl (s : State) : Word := wordOf s.regs.h s.regs.l

/-- Write AF; F keeps its low nibble 0 (R22, R23). -/
def State.setAf (s : State) (v : Word) : State := (s.setReg8 .a (hiByte v)).setF (loByte v)

/-- Write BC (R22). -/
def State.setBc (s : State) (v : Word) : State := (s.setReg8 .b (hiByte v)).setReg8 .c (loByte v)

/-- Write DE (R22). -/
def State.setDe (s : State) (v : Word) : State := (s.setReg8 .d (hiByte v)).setReg8 .e (loByte v)

/-- Write HL (R22). -/
def State.setHl (s : State) (v : Word) : State := (s.setReg8 .h (hiByte v)).setReg8 .l (loByte v)

/-- Read an operand of table rp (R96). -/
def State.rp (s : State) (p : Rp) : Word :=
  match p with
  | .bc => s.bc
  | .de => s.de
  | .hl => s.hl
  | .sp => s.regs.sp

/-- Write an operand of table rp (R96). -/
def State.setRp (s : State) (p : Rp) (v : Word) : State :=
  match p with
  | .bc => s.setBc v
  | .de => s.setDe v
  | .hl => s.setHl v
  | .sp => s.setSp v

/-- Read an operand of table rp2 (R96). -/
def State.rp2 (s : State) (p : Rp2) : Word :=
  match p with
  | .bc => s.bc
  | .de => s.de
  | .hl => s.hl
  | .af => s.af

/-- Write an operand of table rp2 (R96). -/
def State.setRp2 (s : State) (p : Rp2) (v : Word) : State :=
  match p with
  | .bc => s.setBc v
  | .de => s.setDe v
  | .hl => s.setHl v
  | .af => s.setAf v

/-- The byte at HL, the operand `(HL)` (R93, R94). -/
def State.atHL (s : State) : Byte := s.read8 s.hl

/-- The address `0xFF00 + n` of LDH and LD (C) (R131 to R134, D35). -/
def highPage (n : Byte) : Word := wordOf 0xFF#8 n

/-- `sext_16` of an e8 operand (R11, R95). -/
def sext16 (e : Byte) : Word := e.signExtend 16

/-- `cond(cc)` (R97, R250). -/
def State.cond (s : State) (cc : Cond) : Bool :=
  match cc with
  | .nz => !s.flagZ
  | .z => s.flagZ
  | .nc => !s.flagC
  | .c => s.flagC

/-! ## Effects over an operand -/

/-- Replace a register by a result of its value and set the flags. -/
def updateReg (f : Byte → Alu8) (r : Reg8) (s : State) : Result :=
  let res := f (s.reg8 r)
  .next ((s.setReg8 r res.value).setFlagsOf res)

/-- Replace the byte at HL by a result of its value and set the flags: one step (R80). -/
def updateAtHL (f : Byte → Alu8) (s : State) : Result :=
  let addr := s.hl
  let res := f (s.read8 addr)
  .next ((s.write8 addr res.value).setFlagsOf res)

/-- The effect of an entry for unfinished hardware behaviour (R104, R304). -/
def unimplemented (key : OpcodeKey) (s : State) : Result := finish s (.error (.unimplementedOpcode key))

end Sys2Proof.Machine
end

