-- ==== Sys2Proof/Machine/Alu16Ops.lean ====
section
/-! DEFINITION. 16-bit arithmetic (42_alu16.md R190 to R194): the shared operations, then one meaning per instruction. -/

namespace Sys2Proof.Machine

/-- `ADD HL,rr`: Z stays (R190). -/
def addToHL (p : Rp) (s : State) : Result :=
  let res := add16 s.hl (s.rp p)
  .next ((s.setHl res.value).setFlags s.flagZ false res.h res.c)

/-- `INC rr` (R191). -/
def incPair (p : Rp) (s : State) : Result := .next (s.setRp p (s.rp p + 1#16))

/-- `DEC rr` (R192). -/
def decPair (p : Rp) (s : State) : Result := .next (s.setRp p (s.rp p - 1#16))

/-- `INC BC` (R191). -/
def execInc_BC (s : State) : Result := incPair .bc s

/-- `ADD HL,BC` (R190). -/
def execAdd_HL_BC (s : State) : Result := addToHL .bc s

/-- `DEC BC` (R192). -/
def execDec_BC (s : State) : Result := decPair .bc s

/-- `INC DE` (R191). -/
def execInc_DE (s : State) : Result := incPair .de s

/-- `ADD HL,DE` (R190). -/
def execAdd_HL_DE (s : State) : Result := addToHL .de s

/-- `DEC DE` (R192). -/
def execDec_DE (s : State) : Result := decPair .de s

/-- `INC HL` (R191). -/
def execInc_HL (s : State) : Result := incPair .hl s

/-- `ADD HL,HL` (R190). -/
def execAdd_HL_HL (s : State) : Result := addToHL .hl s

/-- `DEC HL` (R192). -/
def execDec_HL (s : State) : Result := decPair .hl s

/-- `INC SP` (R191). -/
def execInc_SP (s : State) : Result := incPair .sp s

/-- `ADD HL,SP` (R190). -/
def execAdd_HL_SP (s : State) : Result := addToHL .sp s

/-- `DEC SP` (R192). -/
def execDec_SP (s : State) : Result := decPair .sp s

/-- `ADD SP,e8` (R193). -/
def execAdd_SP_e8 (e : Byte) (s : State) : Result :=
  let res := add16 s.regs.sp (sext16 e)
  .next ((s.setSp res.value).setFlags false false res.h res.c)

/-- `LD HL,SP+e8` (R194). -/
def execLd_HL_SPe8 (e : Byte) (s : State) : Result :=
  let res := add16 s.regs.sp (sext16 e)
  .next ((s.setHl res.value).setFlags false false res.h res.c)

end Sys2Proof.Machine
end

