-- ==== Sys2Proof/Machine/Alu8Ops.lean ====
section
/-! DEFINITION. 8-bit arithmetic and logic (41_alu8.md R160 to R175): the shared operations, then one meaning per instruction. -/

namespace Sys2Proof.Machine

/-- The two-operand ALU group on A and a source byte; CP leaves A (R160 to R167). -/
def aluA (op : AluOp) (v : Byte) (s : State) : Result :=
  let res := alu8 op s.regs.a v s.flagC
  .next ((if op = .cp then s else s.setReg8 .a res.value).setFlagsOf res)

/-- `INC r` (R168). -/
def incReg (r : Reg8) (s : State) : Result := updateReg (fun v => inc8 v s.flagC) r s

/-- `DEC r` (R170). -/
def decReg (r : Reg8) (s : State) : Result := updateReg (fun v => dec8 v s.flagC) r s

/-- `INC B` (R168). -/
def execInc_B (s : State) : Result := incReg .b s

/-- `DEC B` (R170). -/
def execDec_B (s : State) : Result := decReg .b s

/-- `INC C` (R168). -/
def execInc_C (s : State) : Result := incReg .c s

/-- `DEC C` (R170). -/
def execDec_C (s : State) : Result := decReg .c s

/-- `INC D` (R168). -/
def execInc_D (s : State) : Result := incReg .d s

/-- `DEC D` (R170). -/
def execDec_D (s : State) : Result := decReg .d s

/-- `INC E` (R168). -/
def execInc_E (s : State) : Result := incReg .e s

/-- `DEC E` (R170). -/
def execDec_E (s : State) : Result := decReg .e s

/-- `INC H` (R168). -/
def execInc_H (s : State) : Result := incReg .h s

/-- `DEC H` (R170). -/
def execDec_H (s : State) : Result := decReg .h s

/-- `DAA` (R175). -/
def execDaa (s : State) : Result := unimplemented (.plain 0x27#8) s

/-- `INC L` (R168). -/
def execInc_L (s : State) : Result := incReg .l s

/-- `DEC L` (R170). -/
def execDec_L (s : State) : Result := decReg .l s

/-- `CPL` (R172). -/
def execCpl (s : State) : Result :=
  .next ((s.setReg8 .a (0xFF#8 ^^^ s.regs.a)).setFlags s.flagZ true true s.flagC)

/-- `INC (HL)` (R169). -/
def execInc_iHL (s : State) : Result := updateAtHL (fun v => inc8 v s.flagC) s

/-- `DEC (HL)` (R171). -/
def execDec_iHL (s : State) : Result := updateAtHL (fun v => dec8 v s.flagC) s

/-- `SCF` (R173). -/
def execScf (s : State) : Result := .next (s.setFlags s.flagZ false false true)

/-- `INC A` (R168). -/
def execInc_A (s : State) : Result := incReg .a s

/-- `DEC A` (R170). -/
def execDec_A (s : State) : Result := decReg .a s

/-- `CCF` (R174). -/
def execCcf (s : State) : Result := .next (s.setFlags s.flagZ false false (!s.flagC))

/-- `ADD A,B` (R160). -/
def execAdd_A_B (s : State) : Result := aluA .add (s.reg8 .b) s

/-- `ADD A,C` (R160). -/
def execAdd_A_C (s : State) : Result := aluA .add (s.reg8 .c) s

/-- `ADD A,D` (R160). -/
def execAdd_A_D (s : State) : Result := aluA .add (s.reg8 .d) s

/-- `ADD A,E` (R160). -/
def execAdd_A_E (s : State) : Result := aluA .add (s.reg8 .e) s

/-- `ADD A,H` (R160). -/
def execAdd_A_H (s : State) : Result := aluA .add (s.reg8 .h) s

/-- `ADD A,L` (R160). -/
def execAdd_A_L (s : State) : Result := aluA .add (s.reg8 .l) s

/-- `ADD A,(HL)` (R160). -/
def execAdd_A_iHL (s : State) : Result := aluA .add s.atHL s

/-- `ADD A,A` (R160). -/
def execAdd_A_A (s : State) : Result := aluA .add (s.reg8 .a) s

/-- `ADC A,B` (R161). -/
def execAdc_A_B (s : State) : Result := aluA .adc (s.reg8 .b) s

/-- `ADC A,C` (R161). -/
def execAdc_A_C (s : State) : Result := aluA .adc (s.reg8 .c) s

/-- `ADC A,D` (R161). -/
def execAdc_A_D (s : State) : Result := aluA .adc (s.reg8 .d) s

/-- `ADC A,E` (R161). -/
def execAdc_A_E (s : State) : Result := aluA .adc (s.reg8 .e) s

/-- `ADC A,H` (R161). -/
def execAdc_A_H (s : State) : Result := aluA .adc (s.reg8 .h) s

/-- `ADC A,L` (R161). -/
def execAdc_A_L (s : State) : Result := aluA .adc (s.reg8 .l) s

/-- `ADC A,(HL)` (R161). -/
def execAdc_A_iHL (s : State) : Result := aluA .adc s.atHL s

/-- `ADC A,A` (R161). -/
def execAdc_A_A (s : State) : Result := aluA .adc (s.reg8 .a) s

/-- `SUB A,B` (R162). -/
def execSub_A_B (s : State) : Result := aluA .sub (s.reg8 .b) s

/-- `SUB A,C` (R162). -/
def execSub_A_C (s : State) : Result := aluA .sub (s.reg8 .c) s

/-- `SUB A,D` (R162). -/
def execSub_A_D (s : State) : Result := aluA .sub (s.reg8 .d) s

/-- `SUB A,E` (R162). -/
def execSub_A_E (s : State) : Result := aluA .sub (s.reg8 .e) s

/-- `SUB A,H` (R162). -/
def execSub_A_H (s : State) : Result := aluA .sub (s.reg8 .h) s

/-- `SUB A,L` (R162). -/
def execSub_A_L (s : State) : Result := aluA .sub (s.reg8 .l) s

/-- `SUB A,(HL)` (R162). -/
def execSub_A_iHL (s : State) : Result := aluA .sub s.atHL s

/-- `SUB A,A` (R162). -/
def execSub_A_A (s : State) : Result := aluA .sub (s.reg8 .a) s

/-- `SBC A,B` (R163). -/
def execSbc_A_B (s : State) : Result := aluA .sbc (s.reg8 .b) s

/-- `SBC A,C` (R163). -/
def execSbc_A_C (s : State) : Result := aluA .sbc (s.reg8 .c) s

/-- `SBC A,D` (R163). -/
def execSbc_A_D (s : State) : Result := aluA .sbc (s.reg8 .d) s

/-- `SBC A,E` (R163). -/
def execSbc_A_E (s : State) : Result := aluA .sbc (s.reg8 .e) s

/-- `SBC A,H` (R163). -/
def execSbc_A_H (s : State) : Result := aluA .sbc (s.reg8 .h) s

/-- `SBC A,L` (R163). -/
def execSbc_A_L (s : State) : Result := aluA .sbc (s.reg8 .l) s

/-- `SBC A,(HL)` (R163). -/
def execSbc_A_iHL (s : State) : Result := aluA .sbc s.atHL s

/-- `SBC A,A` (R163). -/
def execSbc_A_A (s : State) : Result := aluA .sbc (s.reg8 .a) s

/-- `AND A,B` (R164). -/
def execAnd_A_B (s : State) : Result := aluA .and (s.reg8 .b) s

/-- `AND A,C` (R164). -/
def execAnd_A_C (s : State) : Result := aluA .and (s.reg8 .c) s

/-- `AND A,D` (R164). -/
def execAnd_A_D (s : State) : Result := aluA .and (s.reg8 .d) s

/-- `AND A,E` (R164). -/
def execAnd_A_E (s : State) : Result := aluA .and (s.reg8 .e) s

/-- `AND A,H` (R164). -/
def execAnd_A_H (s : State) : Result := aluA .and (s.reg8 .h) s

/-- `AND A,L` (R164). -/
def execAnd_A_L (s : State) : Result := aluA .and (s.reg8 .l) s

/-- `AND A,(HL)` (R164). -/
def execAnd_A_iHL (s : State) : Result := aluA .and s.atHL s

/-- `AND A,A` (R164). -/
def execAnd_A_A (s : State) : Result := aluA .and (s.reg8 .a) s

/-- `XOR A,B` (R166). -/
def execXor_A_B (s : State) : Result := aluA .xor (s.reg8 .b) s

/-- `XOR A,C` (R166). -/
def execXor_A_C (s : State) : Result := aluA .xor (s.reg8 .c) s

/-- `XOR A,D` (R166). -/
def execXor_A_D (s : State) : Result := aluA .xor (s.reg8 .d) s

/-- `XOR A,E` (R166). -/
def execXor_A_E (s : State) : Result := aluA .xor (s.reg8 .e) s

/-- `XOR A,H` (R166). -/
def execXor_A_H (s : State) : Result := aluA .xor (s.reg8 .h) s

/-- `XOR A,L` (R166). -/
def execXor_A_L (s : State) : Result := aluA .xor (s.reg8 .l) s

/-- `XOR A,(HL)` (R166). -/
def execXor_A_iHL (s : State) : Result := aluA .xor s.atHL s

/-- `XOR A,A` (R166). -/
def execXor_A_A (s : State) : Result := aluA .xor (s.reg8 .a) s

/-- `OR A,B` (R165). -/
def execOr_A_B (s : State) : Result := aluA .or (s.reg8 .b) s

/-- `OR A,C` (R165). -/
def execOr_A_C (s : State) : Result := aluA .or (s.reg8 .c) s

/-- `OR A,D` (R165). -/
def execOr_A_D (s : State) : Result := aluA .or (s.reg8 .d) s

/-- `OR A,E` (R165). -/
def execOr_A_E (s : State) : Result := aluA .or (s.reg8 .e) s

/-- `OR A,H` (R165). -/
def execOr_A_H (s : State) : Result := aluA .or (s.reg8 .h) s

/-- `OR A,L` (R165). -/
def execOr_A_L (s : State) : Result := aluA .or (s.reg8 .l) s

/-- `OR A,(HL)` (R165). -/
def execOr_A_iHL (s : State) : Result := aluA .or s.atHL s

/-- `OR A,A` (R165). -/
def execOr_A_A (s : State) : Result := aluA .or (s.reg8 .a) s

/-- `CP A,B` (R167). -/
def execCp_A_B (s : State) : Result := aluA .cp (s.reg8 .b) s

/-- `CP A,C` (R167). -/
def execCp_A_C (s : State) : Result := aluA .cp (s.reg8 .c) s

/-- `CP A,D` (R167). -/
def execCp_A_D (s : State) : Result := aluA .cp (s.reg8 .d) s

/-- `CP A,E` (R167). -/
def execCp_A_E (s : State) : Result := aluA .cp (s.reg8 .e) s

/-- `CP A,H` (R167). -/
def execCp_A_H (s : State) : Result := aluA .cp (s.reg8 .h) s

/-- `CP A,L` (R167). -/
def execCp_A_L (s : State) : Result := aluA .cp (s.reg8 .l) s

/-- `CP A,(HL)` (R167). -/
def execCp_A_iHL (s : State) : Result := aluA .cp s.atHL s

/-- `CP A,A` (R167). -/
def execCp_A_A (s : State) : Result := aluA .cp (s.reg8 .a) s

/-- `ADD A,n8` (R160). -/
def execAdd_A_n8 (n : Byte) (s : State) : Result := aluA .add n s

/-- `ADC A,n8` (R161). -/
def execAdc_A_n8 (n : Byte) (s : State) : Result := aluA .adc n s

/-- `SUB A,n8` (R162). -/
def execSub_A_n8 (n : Byte) (s : State) : Result := aluA .sub n s

/-- `SBC A,n8` (R163). -/
def execSbc_A_n8 (n : Byte) (s : State) : Result := aluA .sbc n s

/-- `AND A,n8` (R164). -/
def execAnd_A_n8 (n : Byte) (s : State) : Result := aluA .and n s

/-- `XOR A,n8` (R166). -/
def execXor_A_n8 (n : Byte) (s : State) : Result := aluA .xor n s

/-- `OR A,n8` (R165). -/
def execOr_A_n8 (n : Byte) (s : State) : Result := aluA .or n s

/-- `CP A,n8` (R167). -/
def execCp_A_n8 (n : Byte) (s : State) : Result := aluA .cp n s

end Sys2Proof.Machine
end

