-- ==== Sys2Proof/Machine/Bits.lean ====
section
/-! DEFINITION. Bit test, reset and set (43_rotate_shift_bit.md R230 to R235): the shared operations, then one meaning per instruction. -/

namespace Sys2Proof.Machine

/-- BIT b of a byte: C stays (R230, R231). -/
def testBit (b : Fin 8) (v : Byte) (s : State) : Result :=
  .next (s.setFlags (!v.getLsbD b.val) false true s.flagC)

/-- `RES b,r` and `SET b,r`: no flag is written (R232, R234). -/
def mapReg (f : Byte → Byte) (r : Reg8) (s : State) : Result := .next (s.setReg8 r (f (s.reg8 r)))

/-- `RES b,(HL)` and `SET b,(HL)`: no flag is written (R233, R235). -/
def mapAtHL (f : Byte → Byte) (s : State) : Result :=
  let addr := s.hl
  .next (s.write8 addr (f (s.read8 addr)))

/-- `BIT 0,B` (R230). -/
def execBit_0_B (s : State) : Result := testBit 0 (s.reg8 .b) s

/-- `BIT 0,C` (R230). -/
def execBit_0_C (s : State) : Result := testBit 0 (s.reg8 .c) s

/-- `BIT 0,D` (R230). -/
def execBit_0_D (s : State) : Result := testBit 0 (s.reg8 .d) s

/-- `BIT 0,E` (R230). -/
def execBit_0_E (s : State) : Result := testBit 0 (s.reg8 .e) s

/-- `BIT 0,H` (R230). -/
def execBit_0_H (s : State) : Result := testBit 0 (s.reg8 .h) s

/-- `BIT 0,L` (R230). -/
def execBit_0_L (s : State) : Result := testBit 0 (s.reg8 .l) s

/-- `BIT 0,(HL)` (R231). -/
def execBit_0_iHL (s : State) : Result := testBit 0 s.atHL s

/-- `BIT 0,A` (R230). -/
def execBit_0_A (s : State) : Result := testBit 0 (s.reg8 .a) s

/-- `BIT 1,B` (R230). -/
def execBit_1_B (s : State) : Result := testBit 1 (s.reg8 .b) s

/-- `BIT 1,C` (R230). -/
def execBit_1_C (s : State) : Result := testBit 1 (s.reg8 .c) s

/-- `BIT 1,D` (R230). -/
def execBit_1_D (s : State) : Result := testBit 1 (s.reg8 .d) s

/-- `BIT 1,E` (R230). -/
def execBit_1_E (s : State) : Result := testBit 1 (s.reg8 .e) s

/-- `BIT 1,H` (R230). -/
def execBit_1_H (s : State) : Result := testBit 1 (s.reg8 .h) s

/-- `BIT 1,L` (R230). -/
def execBit_1_L (s : State) : Result := testBit 1 (s.reg8 .l) s

/-- `BIT 1,(HL)` (R231). -/
def execBit_1_iHL (s : State) : Result := testBit 1 s.atHL s

/-- `BIT 1,A` (R230). -/
def execBit_1_A (s : State) : Result := testBit 1 (s.reg8 .a) s

/-- `BIT 2,B` (R230). -/
def execBit_2_B (s : State) : Result := testBit 2 (s.reg8 .b) s

/-- `BIT 2,C` (R230). -/
def execBit_2_C (s : State) : Result := testBit 2 (s.reg8 .c) s

/-- `BIT 2,D` (R230). -/
def execBit_2_D (s : State) : Result := testBit 2 (s.reg8 .d) s

/-- `BIT 2,E` (R230). -/
def execBit_2_E (s : State) : Result := testBit 2 (s.reg8 .e) s

/-- `BIT 2,H` (R230). -/
def execBit_2_H (s : State) : Result := testBit 2 (s.reg8 .h) s

/-- `BIT 2,L` (R230). -/
def execBit_2_L (s : State) : Result := testBit 2 (s.reg8 .l) s

/-- `BIT 2,(HL)` (R231). -/
def execBit_2_iHL (s : State) : Result := testBit 2 s.atHL s

/-- `BIT 2,A` (R230). -/
def execBit_2_A (s : State) : Result := testBit 2 (s.reg8 .a) s

/-- `BIT 3,B` (R230). -/
def execBit_3_B (s : State) : Result := testBit 3 (s.reg8 .b) s

/-- `BIT 3,C` (R230). -/
def execBit_3_C (s : State) : Result := testBit 3 (s.reg8 .c) s

/-- `BIT 3,D` (R230). -/
def execBit_3_D (s : State) : Result := testBit 3 (s.reg8 .d) s

/-- `BIT 3,E` (R230). -/
def execBit_3_E (s : State) : Result := testBit 3 (s.reg8 .e) s

/-- `BIT 3,H` (R230). -/
def execBit_3_H (s : State) : Result := testBit 3 (s.reg8 .h) s

/-- `BIT 3,L` (R230). -/
def execBit_3_L (s : State) : Result := testBit 3 (s.reg8 .l) s

/-- `BIT 3,(HL)` (R231). -/
def execBit_3_iHL (s : State) : Result := testBit 3 s.atHL s

/-- `BIT 3,A` (R230). -/
def execBit_3_A (s : State) : Result := testBit 3 (s.reg8 .a) s

/-- `BIT 4,B` (R230). -/
def execBit_4_B (s : State) : Result := testBit 4 (s.reg8 .b) s

/-- `BIT 4,C` (R230). -/
def execBit_4_C (s : State) : Result := testBit 4 (s.reg8 .c) s

/-- `BIT 4,D` (R230). -/
def execBit_4_D (s : State) : Result := testBit 4 (s.reg8 .d) s

/-- `BIT 4,E` (R230). -/
def execBit_4_E (s : State) : Result := testBit 4 (s.reg8 .e) s

/-- `BIT 4,H` (R230). -/
def execBit_4_H (s : State) : Result := testBit 4 (s.reg8 .h) s

/-- `BIT 4,L` (R230). -/
def execBit_4_L (s : State) : Result := testBit 4 (s.reg8 .l) s

/-- `BIT 4,(HL)` (R231). -/
def execBit_4_iHL (s : State) : Result := testBit 4 s.atHL s

/-- `BIT 4,A` (R230). -/
def execBit_4_A (s : State) : Result := testBit 4 (s.reg8 .a) s

/-- `BIT 5,B` (R230). -/
def execBit_5_B (s : State) : Result := testBit 5 (s.reg8 .b) s

/-- `BIT 5,C` (R230). -/
def execBit_5_C (s : State) : Result := testBit 5 (s.reg8 .c) s

/-- `BIT 5,D` (R230). -/
def execBit_5_D (s : State) : Result := testBit 5 (s.reg8 .d) s

/-- `BIT 5,E` (R230). -/
def execBit_5_E (s : State) : Result := testBit 5 (s.reg8 .e) s

/-- `BIT 5,H` (R230). -/
def execBit_5_H (s : State) : Result := testBit 5 (s.reg8 .h) s

/-- `BIT 5,L` (R230). -/
def execBit_5_L (s : State) : Result := testBit 5 (s.reg8 .l) s

/-- `BIT 5,(HL)` (R231). -/
def execBit_5_iHL (s : State) : Result := testBit 5 s.atHL s

/-- `BIT 5,A` (R230). -/
def execBit_5_A (s : State) : Result := testBit 5 (s.reg8 .a) s

/-- `BIT 6,B` (R230). -/
def execBit_6_B (s : State) : Result := testBit 6 (s.reg8 .b) s

/-- `BIT 6,C` (R230). -/
def execBit_6_C (s : State) : Result := testBit 6 (s.reg8 .c) s

/-- `BIT 6,D` (R230). -/
def execBit_6_D (s : State) : Result := testBit 6 (s.reg8 .d) s

/-- `BIT 6,E` (R230). -/
def execBit_6_E (s : State) : Result := testBit 6 (s.reg8 .e) s

/-- `BIT 6,H` (R230). -/
def execBit_6_H (s : State) : Result := testBit 6 (s.reg8 .h) s

/-- `BIT 6,L` (R230). -/
def execBit_6_L (s : State) : Result := testBit 6 (s.reg8 .l) s

/-- `BIT 6,(HL)` (R231). -/
def execBit_6_iHL (s : State) : Result := testBit 6 s.atHL s

/-- `BIT 6,A` (R230). -/
def execBit_6_A (s : State) : Result := testBit 6 (s.reg8 .a) s

/-- `BIT 7,B` (R230). -/
def execBit_7_B (s : State) : Result := testBit 7 (s.reg8 .b) s

/-- `BIT 7,C` (R230). -/
def execBit_7_C (s : State) : Result := testBit 7 (s.reg8 .c) s

/-- `BIT 7,D` (R230). -/
def execBit_7_D (s : State) : Result := testBit 7 (s.reg8 .d) s

/-- `BIT 7,E` (R230). -/
def execBit_7_E (s : State) : Result := testBit 7 (s.reg8 .e) s

/-- `BIT 7,H` (R230). -/
def execBit_7_H (s : State) : Result := testBit 7 (s.reg8 .h) s

/-- `BIT 7,L` (R230). -/
def execBit_7_L (s : State) : Result := testBit 7 (s.reg8 .l) s

/-- `BIT 7,(HL)` (R231). -/
def execBit_7_iHL (s : State) : Result := testBit 7 s.atHL s

/-- `BIT 7,A` (R230). -/
def execBit_7_A (s : State) : Result := testBit 7 (s.reg8 .a) s

/-- `RES 0,B` (R232). -/
def execRes_0_B (s : State) : Result := mapReg (clearBit 0) .b s

/-- `RES 0,C` (R232). -/
def execRes_0_C (s : State) : Result := mapReg (clearBit 0) .c s

/-- `RES 0,D` (R232). -/
def execRes_0_D (s : State) : Result := mapReg (clearBit 0) .d s

/-- `RES 0,E` (R232). -/
def execRes_0_E (s : State) : Result := mapReg (clearBit 0) .e s

/-- `RES 0,H` (R232). -/
def execRes_0_H (s : State) : Result := mapReg (clearBit 0) .h s

/-- `RES 0,L` (R232). -/
def execRes_0_L (s : State) : Result := mapReg (clearBit 0) .l s

/-- `RES 0,(HL)` (R233). -/
def execRes_0_iHL (s : State) : Result := mapAtHL (clearBit 0) s

/-- `RES 0,A` (R232). -/
def execRes_0_A (s : State) : Result := mapReg (clearBit 0) .a s

/-- `RES 1,B` (R232). -/
def execRes_1_B (s : State) : Result := mapReg (clearBit 1) .b s

/-- `RES 1,C` (R232). -/
def execRes_1_C (s : State) : Result := mapReg (clearBit 1) .c s

/-- `RES 1,D` (R232). -/
def execRes_1_D (s : State) : Result := mapReg (clearBit 1) .d s

/-- `RES 1,E` (R232). -/
def execRes_1_E (s : State) : Result := mapReg (clearBit 1) .e s

/-- `RES 1,H` (R232). -/
def execRes_1_H (s : State) : Result := mapReg (clearBit 1) .h s

/-- `RES 1,L` (R232). -/
def execRes_1_L (s : State) : Result := mapReg (clearBit 1) .l s

/-- `RES 1,(HL)` (R233). -/
def execRes_1_iHL (s : State) : Result := mapAtHL (clearBit 1) s

/-- `RES 1,A` (R232). -/
def execRes_1_A (s : State) : Result := mapReg (clearBit 1) .a s

/-- `RES 2,B` (R232). -/
def execRes_2_B (s : State) : Result := mapReg (clearBit 2) .b s

/-- `RES 2,C` (R232). -/
def execRes_2_C (s : State) : Result := mapReg (clearBit 2) .c s

/-- `RES 2,D` (R232). -/
def execRes_2_D (s : State) : Result := mapReg (clearBit 2) .d s

/-- `RES 2,E` (R232). -/
def execRes_2_E (s : State) : Result := mapReg (clearBit 2) .e s

/-- `RES 2,H` (R232). -/
def execRes_2_H (s : State) : Result := mapReg (clearBit 2) .h s

/-- `RES 2,L` (R232). -/
def execRes_2_L (s : State) : Result := mapReg (clearBit 2) .l s

/-- `RES 2,(HL)` (R233). -/
def execRes_2_iHL (s : State) : Result := mapAtHL (clearBit 2) s

/-- `RES 2,A` (R232). -/
def execRes_2_A (s : State) : Result := mapReg (clearBit 2) .a s

/-- `RES 3,B` (R232). -/
def execRes_3_B (s : State) : Result := mapReg (clearBit 3) .b s

/-- `RES 3,C` (R232). -/
def execRes_3_C (s : State) : Result := mapReg (clearBit 3) .c s

/-- `RES 3,D` (R232). -/
def execRes_3_D (s : State) : Result := mapReg (clearBit 3) .d s

/-- `RES 3,E` (R232). -/
def execRes_3_E (s : State) : Result := mapReg (clearBit 3) .e s

/-- `RES 3,H` (R232). -/
def execRes_3_H (s : State) : Result := mapReg (clearBit 3) .h s

/-- `RES 3,L` (R232). -/
def execRes_3_L (s : State) : Result := mapReg (clearBit 3) .l s

/-- `RES 3,(HL)` (R233). -/
def execRes_3_iHL (s : State) : Result := mapAtHL (clearBit 3) s

/-- `RES 3,A` (R232). -/
def execRes_3_A (s : State) : Result := mapReg (clearBit 3) .a s

/-- `RES 4,B` (R232). -/
def execRes_4_B (s : State) : Result := mapReg (clearBit 4) .b s

/-- `RES 4,C` (R232). -/
def execRes_4_C (s : State) : Result := mapReg (clearBit 4) .c s

/-- `RES 4,D` (R232). -/
def execRes_4_D (s : State) : Result := mapReg (clearBit 4) .d s

/-- `RES 4,E` (R232). -/
def execRes_4_E (s : State) : Result := mapReg (clearBit 4) .e s

/-- `RES 4,H` (R232). -/
def execRes_4_H (s : State) : Result := mapReg (clearBit 4) .h s

/-- `RES 4,L` (R232). -/
def execRes_4_L (s : State) : Result := mapReg (clearBit 4) .l s

/-- `RES 4,(HL)` (R233). -/
def execRes_4_iHL (s : State) : Result := mapAtHL (clearBit 4) s

/-- `RES 4,A` (R232). -/
def execRes_4_A (s : State) : Result := mapReg (clearBit 4) .a s

/-- `RES 5,B` (R232). -/
def execRes_5_B (s : State) : Result := mapReg (clearBit 5) .b s

/-- `RES 5,C` (R232). -/
def execRes_5_C (s : State) : Result := mapReg (clearBit 5) .c s

/-- `RES 5,D` (R232). -/
def execRes_5_D (s : State) : Result := mapReg (clearBit 5) .d s

/-- `RES 5,E` (R232). -/
def execRes_5_E (s : State) : Result := mapReg (clearBit 5) .e s

/-- `RES 5,H` (R232). -/
def execRes_5_H (s : State) : Result := mapReg (clearBit 5) .h s

/-- `RES 5,L` (R232). -/
def execRes_5_L (s : State) : Result := mapReg (clearBit 5) .l s

/-- `RES 5,(HL)` (R233). -/
def execRes_5_iHL (s : State) : Result := mapAtHL (clearBit 5) s

/-- `RES 5,A` (R232). -/
def execRes_5_A (s : State) : Result := mapReg (clearBit 5) .a s

/-- `RES 6,B` (R232). -/
def execRes_6_B (s : State) : Result := mapReg (clearBit 6) .b s

/-- `RES 6,C` (R232). -/
def execRes_6_C (s : State) : Result := mapReg (clearBit 6) .c s

/-- `RES 6,D` (R232). -/
def execRes_6_D (s : State) : Result := mapReg (clearBit 6) .d s

/-- `RES 6,E` (R232). -/
def execRes_6_E (s : State) : Result := mapReg (clearBit 6) .e s

/-- `RES 6,H` (R232). -/
def execRes_6_H (s : State) : Result := mapReg (clearBit 6) .h s

/-- `RES 6,L` (R232). -/
def execRes_6_L (s : State) : Result := mapReg (clearBit 6) .l s

/-- `RES 6,(HL)` (R233). -/
def execRes_6_iHL (s : State) : Result := mapAtHL (clearBit 6) s

/-- `RES 6,A` (R232). -/
def execRes_6_A (s : State) : Result := mapReg (clearBit 6) .a s

/-- `RES 7,B` (R232). -/
def execRes_7_B (s : State) : Result := mapReg (clearBit 7) .b s

/-- `RES 7,C` (R232). -/
def execRes_7_C (s : State) : Result := mapReg (clearBit 7) .c s

/-- `RES 7,D` (R232). -/
def execRes_7_D (s : State) : Result := mapReg (clearBit 7) .d s

/-- `RES 7,E` (R232). -/
def execRes_7_E (s : State) : Result := mapReg (clearBit 7) .e s

/-- `RES 7,H` (R232). -/
def execRes_7_H (s : State) : Result := mapReg (clearBit 7) .h s

/-- `RES 7,L` (R232). -/
def execRes_7_L (s : State) : Result := mapReg (clearBit 7) .l s

/-- `RES 7,(HL)` (R233). -/
def execRes_7_iHL (s : State) : Result := mapAtHL (clearBit 7) s

/-- `RES 7,A` (R232). -/
def execRes_7_A (s : State) : Result := mapReg (clearBit 7) .a s

/-- `SET 0,B` (R234). -/
def execSet_0_B (s : State) : Result := mapReg (setBit 0) .b s

/-- `SET 0,C` (R234). -/
def execSet_0_C (s : State) : Result := mapReg (setBit 0) .c s

/-- `SET 0,D` (R234). -/
def execSet_0_D (s : State) : Result := mapReg (setBit 0) .d s

/-- `SET 0,E` (R234). -/
def execSet_0_E (s : State) : Result := mapReg (setBit 0) .e s

/-- `SET 0,H` (R234). -/
def execSet_0_H (s : State) : Result := mapReg (setBit 0) .h s

/-- `SET 0,L` (R234). -/
def execSet_0_L (s : State) : Result := mapReg (setBit 0) .l s

/-- `SET 0,(HL)` (R235). -/
def execSet_0_iHL (s : State) : Result := mapAtHL (setBit 0) s

/-- `SET 0,A` (R234). -/
def execSet_0_A (s : State) : Result := mapReg (setBit 0) .a s

/-- `SET 1,B` (R234). -/
def execSet_1_B (s : State) : Result := mapReg (setBit 1) .b s

/-- `SET 1,C` (R234). -/
def execSet_1_C (s : State) : Result := mapReg (setBit 1) .c s

/-- `SET 1,D` (R234). -/
def execSet_1_D (s : State) : Result := mapReg (setBit 1) .d s

/-- `SET 1,E` (R234). -/
def execSet_1_E (s : State) : Result := mapReg (setBit 1) .e s

/-- `SET 1,H` (R234). -/
def execSet_1_H (s : State) : Result := mapReg (setBit 1) .h s

/-- `SET 1,L` (R234). -/
def execSet_1_L (s : State) : Result := mapReg (setBit 1) .l s

/-- `SET 1,(HL)` (R235). -/
def execSet_1_iHL (s : State) : Result := mapAtHL (setBit 1) s

/-- `SET 1,A` (R234). -/
def execSet_1_A (s : State) : Result := mapReg (setBit 1) .a s

/-- `SET 2,B` (R234). -/
def execSet_2_B (s : State) : Result := mapReg (setBit 2) .b s

/-- `SET 2,C` (R234). -/
def execSet_2_C (s : State) : Result := mapReg (setBit 2) .c s

/-- `SET 2,D` (R234). -/
def execSet_2_D (s : State) : Result := mapReg (setBit 2) .d s

/-- `SET 2,E` (R234). -/
def execSet_2_E (s : State) : Result := mapReg (setBit 2) .e s

/-- `SET 2,H` (R234). -/
def execSet_2_H (s : State) : Result := mapReg (setBit 2) .h s

/-- `SET 2,L` (R234). -/
def execSet_2_L (s : State) : Result := mapReg (setBit 2) .l s

/-- `SET 2,(HL)` (R235). -/
def execSet_2_iHL (s : State) : Result := mapAtHL (setBit 2) s

/-- `SET 2,A` (R234). -/
def execSet_2_A (s : State) : Result := mapReg (setBit 2) .a s

/-- `SET 3,B` (R234). -/
def execSet_3_B (s : State) : Result := mapReg (setBit 3) .b s

/-- `SET 3,C` (R234). -/
def execSet_3_C (s : State) : Result := mapReg (setBit 3) .c s

/-- `SET 3,D` (R234). -/
def execSet_3_D (s : State) : Result := mapReg (setBit 3) .d s

/-- `SET 3,E` (R234). -/
def execSet_3_E (s : State) : Result := mapReg (setBit 3) .e s

/-- `SET 3,H` (R234). -/
def execSet_3_H (s : State) : Result := mapReg (setBit 3) .h s

/-- `SET 3,L` (R234). -/
def execSet_3_L (s : State) : Result := mapReg (setBit 3) .l s

/-- `SET 3,(HL)` (R235). -/
def execSet_3_iHL (s : State) : Result := mapAtHL (setBit 3) s

/-- `SET 3,A` (R234). -/
def execSet_3_A (s : State) : Result := mapReg (setBit 3) .a s

/-- `SET 4,B` (R234). -/
def execSet_4_B (s : State) : Result := mapReg (setBit 4) .b s

/-- `SET 4,C` (R234). -/
def execSet_4_C (s : State) : Result := mapReg (setBit 4) .c s

/-- `SET 4,D` (R234). -/
def execSet_4_D (s : State) : Result := mapReg (setBit 4) .d s

/-- `SET 4,E` (R234). -/
def execSet_4_E (s : State) : Result := mapReg (setBit 4) .e s

/-- `SET 4,H` (R234). -/
def execSet_4_H (s : State) : Result := mapReg (setBit 4) .h s

/-- `SET 4,L` (R234). -/
def execSet_4_L (s : State) : Result := mapReg (setBit 4) .l s

/-- `SET 4,(HL)` (R235). -/
def execSet_4_iHL (s : State) : Result := mapAtHL (setBit 4) s

/-- `SET 4,A` (R234). -/
def execSet_4_A (s : State) : Result := mapReg (setBit 4) .a s

/-- `SET 5,B` (R234). -/
def execSet_5_B (s : State) : Result := mapReg (setBit 5) .b s

/-- `SET 5,C` (R234). -/
def execSet_5_C (s : State) : Result := mapReg (setBit 5) .c s

/-- `SET 5,D` (R234). -/
def execSet_5_D (s : State) : Result := mapReg (setBit 5) .d s

/-- `SET 5,E` (R234). -/
def execSet_5_E (s : State) : Result := mapReg (setBit 5) .e s

/-- `SET 5,H` (R234). -/
def execSet_5_H (s : State) : Result := mapReg (setBit 5) .h s

/-- `SET 5,L` (R234). -/
def execSet_5_L (s : State) : Result := mapReg (setBit 5) .l s

/-- `SET 5,(HL)` (R235). -/
def execSet_5_iHL (s : State) : Result := mapAtHL (setBit 5) s

/-- `SET 5,A` (R234). -/
def execSet_5_A (s : State) : Result := mapReg (setBit 5) .a s

/-- `SET 6,B` (R234). -/
def execSet_6_B (s : State) : Result := mapReg (setBit 6) .b s

/-- `SET 6,C` (R234). -/
def execSet_6_C (s : State) : Result := mapReg (setBit 6) .c s

/-- `SET 6,D` (R234). -/
def execSet_6_D (s : State) : Result := mapReg (setBit 6) .d s

/-- `SET 6,E` (R234). -/
def execSet_6_E (s : State) : Result := mapReg (setBit 6) .e s

/-- `SET 6,H` (R234). -/
def execSet_6_H (s : State) : Result := mapReg (setBit 6) .h s

/-- `SET 6,L` (R234). -/
def execSet_6_L (s : State) : Result := mapReg (setBit 6) .l s

/-- `SET 6,(HL)` (R235). -/
def execSet_6_iHL (s : State) : Result := mapAtHL (setBit 6) s

/-- `SET 6,A` (R234). -/
def execSet_6_A (s : State) : Result := mapReg (setBit 6) .a s

/-- `SET 7,B` (R234). -/
def execSet_7_B (s : State) : Result := mapReg (setBit 7) .b s

/-- `SET 7,C` (R234). -/
def execSet_7_C (s : State) : Result := mapReg (setBit 7) .c s

/-- `SET 7,D` (R234). -/
def execSet_7_D (s : State) : Result := mapReg (setBit 7) .d s

/-- `SET 7,E` (R234). -/
def execSet_7_E (s : State) : Result := mapReg (setBit 7) .e s

/-- `SET 7,H` (R234). -/
def execSet_7_H (s : State) : Result := mapReg (setBit 7) .h s

/-- `SET 7,L` (R234). -/
def execSet_7_L (s : State) : Result := mapReg (setBit 7) .l s

/-- `SET 7,(HL)` (R235). -/
def execSet_7_iHL (s : State) : Result := mapAtHL (setBit 7) s

/-- `SET 7,A` (R234). -/
def execSet_7_A (s : State) : Result := mapReg (setBit 7) .a s

end Sys2Proof.Machine
end

