-- ==== Sys2Proof/Machine/Control.lean ====
section
/-! DEFINITION. Control transfer (44_control.md R250 to R261). The effect starts with pc at the first operand byte (R25): the shared operations, then one meaning per instruction. -/

namespace Sys2Proof.Machine

/-- `JP a16` and `JP HL` (R251, R253). -/
def jumpTo (target : Word) (s : State) : Result := .next (s.setPc target)

/-- `JP cc,a16` (R252). -/
def jumpIf (cc : Cond) (target : Word) (s : State) : Result :=
  .next (if s.cond cc then s.setPc target else s.advancePc 2)

/-- The target of a relative jump: the address after the instruction plus e8 (R254, D34). -/
def relTarget (e : Byte) (s : State) : Word := s.regs.pc + 1#16 + sext16 e

/-- `JR cc,e8` (R255). -/
def jumpRelIf (cc : Cond) (e : Byte) (s : State) : Result :=
  .next (if s.cond cc then s.setPc (relTarget e s) else s.advancePc 1)

/-- Push a return address and go to a target (R256, R257, R261). -/
def callFrom (ret target : Word) (s : State) : Result :=
  finish s (match push16 ret s with
    | .ok t => .ok (t.setPc target)
    | .error e => .error e)

/-- `CALL cc,a16` (R257). -/
def callIf (cc : Cond) (target : Word) (s : State) : Result :=
  if s.cond cc then callFrom (s.regs.pc + 2#16) target s else .next (s.advancePc 2)

/-- `pc <- pop16()` (R258). -/
def popPc (s : State) : Except FatalError State :=
  match pop16 s with
  | .ok (v, t) => .ok (t.setPc v)
  | .error e => .error e

/-- `RET cc`: not taken, pc is left at the byte after the opcode (R259). -/
def returnIf (cc : Cond) (s : State) : Result := if s.cond cc then finish s (popPc s) else .next s

/-- `JR e8` (R254). -/
def execJr_e8 (e : Byte) (s : State) : Result := jumpTo (relTarget e s) s

/-- `JR NZ,e8` (R255). -/
def execJr_NZ_e8 (e : Byte) (s : State) : Result := jumpRelIf .nz e s

/-- `JR Z,e8` (R255). -/
def execJr_Z_e8 (e : Byte) (s : State) : Result := jumpRelIf .z e s

/-- `JR NC,e8` (R255). -/
def execJr_NC_e8 (e : Byte) (s : State) : Result := jumpRelIf .nc e s

/-- `JR C,e8` (R255). -/
def execJr_C_e8 (e : Byte) (s : State) : Result := jumpRelIf .c e s

/-- `RET NZ` (R259). -/
def execRet_NZ (s : State) : Result := returnIf .nz s

/-- `JP NZ,a16` (R252). -/
def execJp_NZ_a16 (a : Word) (s : State) : Result := jumpIf .nz a s

/-- `JP a16` (R251). -/
def execJp_a16 (a : Word) (s : State) : Result := jumpTo a s

/-- `CALL NZ,a16` (R257). -/
def execCall_NZ_a16 (a : Word) (s : State) : Result := callIf .nz a s

/-- `RST 0x00` (R261). -/
def execRst_00 (s : State) : Result := callFrom s.regs.pc 0x0000#16 s

/-- `RET Z` (R259). -/
def execRet_Z (s : State) : Result := returnIf .z s

/-- `RET` (R258). -/
def execRet (s : State) : Result := finish s (popPc s)

/-- `JP Z,a16` (R252). -/
def execJp_Z_a16 (a : Word) (s : State) : Result := jumpIf .z a s

/-- `CALL Z,a16` (R257). -/
def execCall_Z_a16 (a : Word) (s : State) : Result := callIf .z a s

/-- `CALL a16` (R256). -/
def execCall_a16 (a : Word) (s : State) : Result := callFrom (s.regs.pc + 2#16) a s

/-- `RST 0x08` (R261). -/
def execRst_08 (s : State) : Result := callFrom s.regs.pc 0x0008#16 s

/-- `RET NC` (R259). -/
def execRet_NC (s : State) : Result := returnIf .nc s

/-- `JP NC,a16` (R252). -/
def execJp_NC_a16 (a : Word) (s : State) : Result := jumpIf .nc a s

/-- `CALL NC,a16` (R257). -/
def execCall_NC_a16 (a : Word) (s : State) : Result := callIf .nc a s

/-- `RST 0x10` (R261). -/
def execRst_10 (s : State) : Result := callFrom s.regs.pc 0x0010#16 s

/-- `RET C` (R259). -/
def execRet_C (s : State) : Result := returnIf .c s

/-- `RETI` (R260). -/
def execReti (s : State) : Result :=
  finish s (match popPc s with
    | .ok t => schedule 2 .enableIE t
    | .error e => .error e)

/-- `JP C,a16` (R252). -/
def execJp_C_a16 (a : Word) (s : State) : Result := jumpIf .c a s

/-- `CALL C,a16` (R257). -/
def execCall_C_a16 (a : Word) (s : State) : Result := callIf .c a s

/-- `RST 0x18` (R261). -/
def execRst_18 (s : State) : Result := callFrom s.regs.pc 0x0018#16 s

/-- `RST 0x20` (R261). -/
def execRst_20 (s : State) : Result := callFrom s.regs.pc 0x0020#16 s

/-- `JP HL` (R253). -/
def execJp_HL (s : State) : Result := jumpTo s.hl s

/-- `RST 0x28` (R261). -/
def execRst_28 (s : State) : Result := callFrom s.regs.pc 0x0028#16 s

/-- `RST 0x30` (R261). -/
def execRst_30 (s : State) : Result := callFrom s.regs.pc 0x0030#16 s

/-- `RST 0x38` (R261). -/
def execRst_38 (s : State) : Result := callFrom s.regs.pc 0x0038#16 s

end Sys2Proof.Machine
end

