-- ==== Sys2Proof/Machine/Loads.lean ====
section
/-! DEFINITION. Loads, stores and stack transfers (40_loads.md R120 to R143): the shared operations, then one meaning per instruction. -/

namespace Sys2Proof.Machine

/-- `LD r,r'` (R120). -/
def loadReg (dst src : Reg8) (s : State) : Result := .next (s.setReg8 dst (s.reg8 src))

/-- `LD r,n8` (R121). -/
def loadImm (dst : Reg8) (n : Byte) (s : State) : Result := .next (s.setReg8 dst n)

/-- `LD r,(HL)`: the address is formed before the write (R122). -/
def loadFromHL (dst : Reg8) (s : State) : Result := .next (s.setReg8 dst s.atHL)

/-- `LD (HL),r` (R123). -/
def storeAtHL (src : Reg8) (s : State) : Result := .next (s.write8 s.hl (s.reg8 src))

/-- `LD (HL),n8` (R124). -/
def storeImmAtHL (n : Byte) (s : State) : Result := .next (s.write8 s.hl n)

/-- A load of A (R125, R126, R129, R131, R133). -/
def loadA (addr : Word) (s : State) : Result := .next (s.setReg8 .a (s.read8 addr))

/-- A store of A (R127, R128, R130, R132, R134). -/
def storeA (addr : Word) (s : State) : Result := .next (s.write8 addr s.regs.a)

/-- A store of A at HL, after which HL moves by `delta` (R135, R136). -/
def storeAMoveHL (delta : Word) (s : State) : Result :=
  let addr := s.hl
  .next ((s.write8 addr s.regs.a).setHl (addr + delta))

/-- A load of A from HL, after which HL moves by `delta` (R137, R138). -/
def loadAMoveHL (delta : Word) (s : State) : Result :=
  let addr := s.hl
  .next ((s.setReg8 .a (s.read8 addr)).setHl (addr + delta))

/-- `LD rr,n16` (R139). -/
def loadPairImm (p : Rp) (n : Word) (s : State) : Result := .next (s.setRp p n)

/-- `LD (a16),SP` (R143). -/
def storeSp (addr : Word) (s : State) : Result := finish s (s.write16 addr s.regs.sp)

/-- `PUSH rr` (R140). -/
def pushPair (p : Rp2) (s : State) : Result := finish s (push16 (s.rp2 p) s)

/-- `POP rr`; POP AF writes the flags (R141). -/
def popPair (p : Rp2) (s : State) : Result :=
  finish s (match pop16 s with
    | .ok (v, t) => .ok (t.setRp2 p v)
    | .error e => .error e)

/-- `LD BC,n16` (R139). -/
def execLd_BC_n16 (n : Word) (s : State) : Result := loadPairImm .bc n s

/-- `LD (BC),A` (R127). -/
def execLd_iBC_A (s : State) : Result := storeA s.bc s

/-- `LD B,n8` (R121). -/
def execLd_B_n8 (n : Byte) (s : State) : Result := loadImm .b n s

/-- `LD (a16),SP` (R143). -/
def execLd_ia16_SP (a : Word) (s : State) : Result := storeSp a s

/-- `LD A,(BC)` (R125). -/
def execLd_A_iBC (s : State) : Result := loadA s.bc s

/-- `LD C,n8` (R121). -/
def execLd_C_n8 (n : Byte) (s : State) : Result := loadImm .c n s

/-- `LD DE,n16` (R139). -/
def execLd_DE_n16 (n : Word) (s : State) : Result := loadPairImm .de n s

/-- `LD (DE),A` (R128). -/
def execLd_iDE_A (s : State) : Result := storeA s.de s

/-- `LD D,n8` (R121). -/
def execLd_D_n8 (n : Byte) (s : State) : Result := loadImm .d n s

/-- `LD A,(DE)` (R126). -/
def execLd_A_iDE (s : State) : Result := loadA s.de s

/-- `LD E,n8` (R121). -/
def execLd_E_n8 (n : Byte) (s : State) : Result := loadImm .e n s

/-- `LD HL,n16` (R139). -/
def execLd_HL_n16 (n : Word) (s : State) : Result := loadPairImm .hl n s

/-- `LD (HL+),A` (R135). -/
def execLd_iHLinc_A (s : State) : Result := storeAMoveHL 1#16 s

/-- `LD H,n8` (R121). -/
def execLd_H_n8 (n : Byte) (s : State) : Result := loadImm .h n s

/-- `LD A,(HL+)` (R137). -/
def execLd_A_iHLinc (s : State) : Result := loadAMoveHL 1#16 s

/-- `LD L,n8` (R121). -/
def execLd_L_n8 (n : Byte) (s : State) : Result := loadImm .l n s

/-- `LD SP,n16` (R139). -/
def execLd_SP_n16 (n : Word) (s : State) : Result := loadPairImm .sp n s

/-- `LD (HL-),A` (R136). -/
def execLd_iHLdec_A (s : State) : Result := storeAMoveHL (-1#16) s

/-- `LD (HL),n8` (R124). -/
def execLd_iHL_n8 (n : Byte) (s : State) : Result := storeImmAtHL n s

/-- `LD A,(HL-)` (R138). -/
def execLd_A_iHLdec (s : State) : Result := loadAMoveHL (-1#16) s

/-- `LD A,n8` (R121). -/
def execLd_A_n8 (n : Byte) (s : State) : Result := loadImm .a n s

/-- `LD B,B` (R120). -/
def execLd_B_B (s : State) : Result := loadReg .b .b s

/-- `LD B,C` (R120). -/
def execLd_B_C (s : State) : Result := loadReg .b .c s

/-- `LD B,D` (R120). -/
def execLd_B_D (s : State) : Result := loadReg .b .d s

/-- `LD B,E` (R120). -/
def execLd_B_E (s : State) : Result := loadReg .b .e s

/-- `LD B,H` (R120). -/
def execLd_B_H (s : State) : Result := loadReg .b .h s

/-- `LD B,L` (R120). -/
def execLd_B_L (s : State) : Result := loadReg .b .l s

/-- `LD B,(HL)` (R122). -/
def execLd_B_iHL (s : State) : Result := loadFromHL .b s

/-- `LD B,A` (R120). -/
def execLd_B_A (s : State) : Result := loadReg .b .a s

/-- `LD C,B` (R120). -/
def execLd_C_B (s : State) : Result := loadReg .c .b s

/-- `LD C,C` (R120). -/
def execLd_C_C (s : State) : Result := loadReg .c .c s

/-- `LD C,D` (R120). -/
def execLd_C_D (s : State) : Result := loadReg .c .d s

/-- `LD C,E` (R120). -/
def execLd_C_E (s : State) : Result := loadReg .c .e s

/-- `LD C,H` (R120). -/
def execLd_C_H (s : State) : Result := loadReg .c .h s

/-- `LD C,L` (R120). -/
def execLd_C_L (s : State) : Result := loadReg .c .l s

/-- `LD C,(HL)` (R122). -/
def execLd_C_iHL (s : State) : Result := loadFromHL .c s

/-- `LD C,A` (R120). -/
def execLd_C_A (s : State) : Result := loadReg .c .a s

/-- `LD D,B` (R120). -/
def execLd_D_B (s : State) : Result := loadReg .d .b s

/-- `LD D,C` (R120). -/
def execLd_D_C (s : State) : Result := loadReg .d .c s

/-- `LD D,D` (R120). -/
def execLd_D_D (s : State) : Result := loadReg .d .d s

/-- `LD D,E` (R120). -/
def execLd_D_E (s : State) : Result := loadReg .d .e s

/-- `LD D,H` (R120). -/
def execLd_D_H (s : State) : Result := loadReg .d .h s

/-- `LD D,L` (R120). -/
def execLd_D_L (s : State) : Result := loadReg .d .l s

/-- `LD D,(HL)` (R122). -/
def execLd_D_iHL (s : State) : Result := loadFromHL .d s

/-- `LD D,A` (R120). -/
def execLd_D_A (s : State) : Result := loadReg .d .a s

/-- `LD E,B` (R120). -/
def execLd_E_B (s : State) : Result := loadReg .e .b s

/-- `LD E,C` (R120). -/
def execLd_E_C (s : State) : Result := loadReg .e .c s

/-- `LD E,D` (R120). -/
def execLd_E_D (s : State) : Result := loadReg .e .d s

/-- `LD E,E` (R120). -/
def execLd_E_E (s : State) : Result := loadReg .e .e s

/-- `LD E,H` (R120). -/
def execLd_E_H (s : State) : Result := loadReg .e .h s

/-- `LD E,L` (R120). -/
def execLd_E_L (s : State) : Result := loadReg .e .l s

/-- `LD E,(HL)` (R122). -/
def execLd_E_iHL (s : State) : Result := loadFromHL .e s

/-- `LD E,A` (R120). -/
def execLd_E_A (s : State) : Result := loadReg .e .a s

/-- `LD H,B` (R120). -/
def execLd_H_B (s : State) : Result := loadReg .h .b s

/-- `LD H,C` (R120). -/
def execLd_H_C (s : State) : Result := loadReg .h .c s

/-- `LD H,D` (R120). -/
def execLd_H_D (s : State) : Result := loadReg .h .d s

/-- `LD H,E` (R120). -/
def execLd_H_E (s : State) : Result := loadReg .h .e s

/-- `LD H,H` (R120). -/
def execLd_H_H (s : State) : Result := loadReg .h .h s

/-- `LD H,L` (R120). -/
def execLd_H_L (s : State) : Result := loadReg .h .l s

/-- `LD H,(HL)` (R122). -/
def execLd_H_iHL (s : State) : Result := loadFromHL .h s

/-- `LD H,A` (R120). -/
def execLd_H_A (s : State) : Result := loadReg .h .a s

/-- `LD L,B` (R120). -/
def execLd_L_B (s : State) : Result := loadReg .l .b s

/-- `LD L,C` (R120). -/
def execLd_L_C (s : State) : Result := loadReg .l .c s

/-- `LD L,D` (R120). -/
def execLd_L_D (s : State) : Result := loadReg .l .d s

/-- `LD L,E` (R120). -/
def execLd_L_E (s : State) : Result := loadReg .l .e s

/-- `LD L,H` (R120). -/
def execLd_L_H (s : State) : Result := loadReg .l .h s

/-- `LD L,L` (R120). -/
def execLd_L_L (s : State) : Result := loadReg .l .l s

/-- `LD L,(HL)` (R122). -/
def execLd_L_iHL (s : State) : Result := loadFromHL .l s

/-- `LD L,A` (R120). -/
def execLd_L_A (s : State) : Result := loadReg .l .a s

/-- `LD (HL),B` (R123). -/
def execLd_iHL_B (s : State) : Result := storeAtHL .b s

/-- `LD (HL),C` (R123). -/
def execLd_iHL_C (s : State) : Result := storeAtHL .c s

/-- `LD (HL),D` (R123). -/
def execLd_iHL_D (s : State) : Result := storeAtHL .d s

/-- `LD (HL),E` (R123). -/
def execLd_iHL_E (s : State) : Result := storeAtHL .e s

/-- `LD (HL),H` (R123). -/
def execLd_iHL_H (s : State) : Result := storeAtHL .h s

/-- `LD (HL),L` (R123). -/
def execLd_iHL_L (s : State) : Result := storeAtHL .l s

/-- `LD (HL),A` (R123). -/
def execLd_iHL_A (s : State) : Result := storeAtHL .a s

/-- `LD A,B` (R120). -/
def execLd_A_B (s : State) : Result := loadReg .a .b s

/-- `LD A,C` (R120). -/
def execLd_A_C (s : State) : Result := loadReg .a .c s

/-- `LD A,D` (R120). -/
def execLd_A_D (s : State) : Result := loadReg .a .d s

/-- `LD A,E` (R120). -/
def execLd_A_E (s : State) : Result := loadReg .a .e s

/-- `LD A,H` (R120). -/
def execLd_A_H (s : State) : Result := loadReg .a .h s

/-- `LD A,L` (R120). -/
def execLd_A_L (s : State) : Result := loadReg .a .l s

/-- `LD A,(HL)` (R122). -/
def execLd_A_iHL (s : State) : Result := loadFromHL .a s

/-- `LD A,A` (R120). -/
def execLd_A_A (s : State) : Result := loadReg .a .a s

/-- `POP BC` (R141). -/
def execPop_BC (s : State) : Result := popPair .bc s

/-- `PUSH BC` (R140). -/
def execPush_BC (s : State) : Result := pushPair .bc s

/-- `POP DE` (R141). -/
def execPop_DE (s : State) : Result := popPair .de s

/-- `PUSH DE` (R140). -/
def execPush_DE (s : State) : Result := pushPair .de s

/-- `LDH (a8),A` (R132). -/
def execLdh_ia8_A (a : Byte) (s : State) : Result := storeA (highPage a) s

/-- `POP HL` (R141). -/
def execPop_HL (s : State) : Result := popPair .hl s

/-- `LD (C),A` (R134). -/
def execLd_iC_A (s : State) : Result := storeA (highPage s.regs.c) s

/-- `PUSH HL` (R140). -/
def execPush_HL (s : State) : Result := pushPair .hl s

/-- `LD (a16),A` (R130). -/
def execLd_ia16_A (a : Word) (s : State) : Result := storeA a s

/-- `LDH A,(a8)` (R131). -/
def execLdh_A_ia8 (a : Byte) (s : State) : Result := loadA (highPage a) s

/-- `POP AF` (R141). -/
def execPop_AF (s : State) : Result := popPair .af s

/-- `LD A,(C)` (R133). -/
def execLd_A_iC (s : State) : Result := loadA (highPage s.regs.c) s

/-- `PUSH AF` (R140). -/
def execPush_AF (s : State) : Result := pushPair .af s

/-- `LD SP,HL` (R142). -/
def execLd_SP_HL (s : State) : Result := .next (s.setSp s.hl)

/-- `LD A,(a16)` (R129). -/
def execLd_A_ia16 (a : Word) (s : State) : Result := loadA a s

end Sys2Proof.Machine
end

