-- ==== Sys2Proof/Machine/Rotates.lean ====
section
/-! DEFINITION. Rotates, shifts and SWAP (43_rotate_shift_bit.md R210 to R229): the shared operations, then one meaning per instruction. -/

namespace Sys2Proof.Machine

/-- A prefixed rotate, shift or SWAP of a register (R214 to R228). -/
def shiftRegister (op : ShiftOp) (r : Reg8) (s : State) : Result := updateReg (fun v => shift8 op v s.flagC) r s

/-- A prefixed rotate or shift of the byte at HL (R215 to R227). -/
def shiftAtHL (op : ShiftOp) (s : State) : Result := updateAtHL (fun v => shift8 op v s.flagC) s

/-- `RLCA` (R210). -/
def execRlca (s : State) : Result := updateReg rlc8 .a s

/-- `RRCA` (R212). -/
def execRrca (s : State) : Result := updateReg rrc8 .a s

/-- `RLA` (R211). -/
def execRla (s : State) : Result := updateReg (fun v => rl8 v s.flagC) .a s

/-- `RRA` (R213). -/
def execRra (s : State) : Result := updateReg (fun v => rr8 v s.flagC) .a s

/-- `RLC B` (R214). -/
def execRlc_B (s : State) : Result := shiftRegister .rlc .b s

/-- `RLC C` (R214). -/
def execRlc_C (s : State) : Result := shiftRegister .rlc .c s

/-- `RLC D` (R214). -/
def execRlc_D (s : State) : Result := shiftRegister .rlc .d s

/-- `RLC E` (R214). -/
def execRlc_E (s : State) : Result := shiftRegister .rlc .e s

/-- `RLC H` (R214). -/
def execRlc_H (s : State) : Result := shiftRegister .rlc .h s

/-- `RLC L` (R214). -/
def execRlc_L (s : State) : Result := shiftRegister .rlc .l s

/-- `RLC (HL)` (R215). -/
def execRlc_iHL (s : State) : Result := shiftAtHL .rlc s

/-- `RLC A` (R214). -/
def execRlc_A (s : State) : Result := shiftRegister .rlc .a s

/-- `RRC B` (R216). -/
def execRrc_B (s : State) : Result := shiftRegister .rrc .b s

/-- `RRC C` (R216). -/
def execRrc_C (s : State) : Result := shiftRegister .rrc .c s

/-- `RRC D` (R216). -/
def execRrc_D (s : State) : Result := shiftRegister .rrc .d s

/-- `RRC E` (R216). -/
def execRrc_E (s : State) : Result := shiftRegister .rrc .e s

/-- `RRC H` (R216). -/
def execRrc_H (s : State) : Result := shiftRegister .rrc .h s

/-- `RRC L` (R216). -/
def execRrc_L (s : State) : Result := shiftRegister .rrc .l s

/-- `RRC (HL)` (R217). -/
def execRrc_iHL (s : State) : Result := shiftAtHL .rrc s

/-- `RRC A` (R216). -/
def execRrc_A (s : State) : Result := shiftRegister .rrc .a s

/-- `RL B` (R218). -/
def execRl_B (s : State) : Result := shiftRegister .rl .b s

/-- `RL C` (R218). -/
def execRl_C (s : State) : Result := shiftRegister .rl .c s

/-- `RL D` (R218). -/
def execRl_D (s : State) : Result := shiftRegister .rl .d s

/-- `RL E` (R218). -/
def execRl_E (s : State) : Result := shiftRegister .rl .e s

/-- `RL H` (R218). -/
def execRl_H (s : State) : Result := shiftRegister .rl .h s

/-- `RL L` (R218). -/
def execRl_L (s : State) : Result := shiftRegister .rl .l s

/-- `RL (HL)` (R219). -/
def execRl_iHL (s : State) : Result := shiftAtHL .rl s

/-- `RL A` (R218). -/
def execRl_A (s : State) : Result := shiftRegister .rl .a s

/-- `RR B` (R220). -/
def execRr_B (s : State) : Result := shiftRegister .rr .b s

/-- `RR C` (R220). -/
def execRr_C (s : State) : Result := shiftRegister .rr .c s

/-- `RR D` (R220). -/
def execRr_D (s : State) : Result := shiftRegister .rr .d s

/-- `RR E` (R220). -/
def execRr_E (s : State) : Result := shiftRegister .rr .e s

/-- `RR H` (R220). -/
def execRr_H (s : State) : Result := shiftRegister .rr .h s

/-- `RR L` (R220). -/
def execRr_L (s : State) : Result := shiftRegister .rr .l s

/-- `RR (HL)` (R221). -/
def execRr_iHL (s : State) : Result := shiftAtHL .rr s

/-- `RR A` (R220). -/
def execRr_A (s : State) : Result := shiftRegister .rr .a s

/-- `SLA B` (R222). -/
def execSla_B (s : State) : Result := shiftRegister .sla .b s

/-- `SLA C` (R222). -/
def execSla_C (s : State) : Result := shiftRegister .sla .c s

/-- `SLA D` (R222). -/
def execSla_D (s : State) : Result := shiftRegister .sla .d s

/-- `SLA E` (R222). -/
def execSla_E (s : State) : Result := shiftRegister .sla .e s

/-- `SLA H` (R222). -/
def execSla_H (s : State) : Result := shiftRegister .sla .h s

/-- `SLA L` (R222). -/
def execSla_L (s : State) : Result := shiftRegister .sla .l s

/-- `SLA (HL)` (R223). -/
def execSla_iHL (s : State) : Result := shiftAtHL .sla s

/-- `SLA A` (R222). -/
def execSla_A (s : State) : Result := shiftRegister .sla .a s

/-- `SRA B` (R224). -/
def execSra_B (s : State) : Result := shiftRegister .sra .b s

/-- `SRA C` (R224). -/
def execSra_C (s : State) : Result := shiftRegister .sra .c s

/-- `SRA D` (R224). -/
def execSra_D (s : State) : Result := shiftRegister .sra .d s

/-- `SRA E` (R224). -/
def execSra_E (s : State) : Result := shiftRegister .sra .e s

/-- `SRA H` (R224). -/
def execSra_H (s : State) : Result := shiftRegister .sra .h s

/-- `SRA L` (R224). -/
def execSra_L (s : State) : Result := shiftRegister .sra .l s

/-- `SRA (HL)` (R225). -/
def execSra_iHL (s : State) : Result := shiftAtHL .sra s

/-- `SRA A` (R224). -/
def execSra_A (s : State) : Result := shiftRegister .sra .a s

/-- `SWAP B` (R228). -/
def execSwap_B (s : State) : Result := shiftRegister .swap .b s

/-- `SWAP C` (R228). -/
def execSwap_C (s : State) : Result := shiftRegister .swap .c s

/-- `SWAP D` (R228). -/
def execSwap_D (s : State) : Result := shiftRegister .swap .d s

/-- `SWAP E` (R228). -/
def execSwap_E (s : State) : Result := shiftRegister .swap .e s

/-- `SWAP H` (R228). -/
def execSwap_H (s : State) : Result := shiftRegister .swap .h s

/-- `SWAP L` (R228). -/
def execSwap_L (s : State) : Result := shiftRegister .swap .l s

/-- `SWAP (HL)` (R229). -/
def execSwap_iHL (s : State) : Result := unimplemented (.extended 0xCB#8 0x36#8) s

/-- `SWAP A` (R228). -/
def execSwap_A (s : State) : Result := shiftRegister .swap .a s

/-- `SRL B` (R226). -/
def execSrl_B (s : State) : Result := shiftRegister .srl .b s

/-- `SRL C` (R226). -/
def execSrl_C (s : State) : Result := shiftRegister .srl .c s

/-- `SRL D` (R226). -/
def execSrl_D (s : State) : Result := shiftRegister .srl .d s

/-- `SRL E` (R226). -/
def execSrl_E (s : State) : Result := shiftRegister .srl .e s

/-- `SRL H` (R226). -/
def execSrl_H (s : State) : Result := shiftRegister .srl .h s

/-- `SRL L` (R226). -/
def execSrl_L (s : State) : Result := shiftRegister .srl .l s

/-- `SRL (HL)` (R227). -/
def execSrl_iHL (s : State) : Result := shiftAtHL .srl s

/-- `SRL A` (R226). -/
def execSrl_A (s : State) : Result := shiftRegister .srl .a s

end Sys2Proof.Machine
end

