-- ==== Sys2Proof/Machine/System.lean ====
section
/-! DEFINITION. System instructions (45_system.md R280 to R284) and the undefined keys (30_encoding.md R101, R102): the shared operations, then one meaning per instruction. -/

namespace Sys2Proof.Machine

/-- `NOP` (R280). -/
def execNop (s : State) : Result := .next s

/-- `STOP` (R284). The second byte is consumed and ignored. -/
def execStop (_n : Byte) (s : State) : Result := .next (s.setRun .stopped)

/-- `HALT` (R283). -/
def execHalt (s : State) : Result := unimplemented (.plain 0x76#8) s

/-- An undefined plain key (R101). -/
def execUndefinedKey (key : Byte) (s : State) : Result := finish s (.error (.undefinedOpcode (.plain key)))

/-- The reserved escape 0xED (R102). -/
def execEscape_ED (xx : Byte) (s : State) : Result := finish s (.error (.undefinedOpcode (.extended 0xED#8 xx)))

/-- `DI` (R281). -/
def execDi (s : State) : Result := finish s (schedule 2 .disableIE s)

/-- `EI` (R282). -/
def execEi (s : State) : Result := finish s (schedule 2 .enableIE s)

end Sys2Proof.Machine
end

