-- ==== Sys2Proof/Machine/Loop.lean ====
section
/-! DEFINITION. The parts of the fetch-decode-execute loop (30_encoding.md R100) that Machine/Step.lean puts together: fetching
an instruction, reading its operand bytes, and retiring it. -/

namespace Sys2Proof.Machine

/-- The instruction at pc: steps 1, 2 and 4 of R100. Byte reads at any address succeed and have no effect (R63, R102), so the
bytes past a short instruction are read and play no part. -/
def fetch (s : State) : Instr :=
  decodeBytes (s.read8 s.regs.pc) (s.read8 (s.regs.pc + 1#16)) (s.read8 (s.regs.pc + 2#16))

/-- Reading the operand bytes with pc at the first of them: a 16-bit immediate is one `read_word`, which fails at 0xFFFF
(R95, D4); a byte or no operand cannot fail. -/
def operandRead (i : Instr) (s : State) : Except FatalError Unit :=
  if i.operands.length = 2 then
    match s.mem.readWord s.regs.pc.toNat with
    | .ok _ => .ok ()
    | .error e => .error e
  else .ok ()

/-- Steps 6 to 8 of R100: tick, the final advance of pc, and the retirement count. -/
def retireNow (i : Instr) (s : State) : State :=
  let t := tick s
  let u := if i.ownsPc then t else t.advancePc (i.byteLength - 1)
  u.setRetired (u.retired + 1)

/-- What the loop does after an effect: nothing where it raised a fatal error, else steps 6 to 8 (R100, R310). -/
def retire (i : Instr) (s : State) : State :=
  match s.run with
  | .terminated _ => s
  | .running => retireNow i s
  | .stopped => retireNow i s

/-- Retire a next state; a fault or a refusal stands. -/
def retireResult (i : Instr) : Result → Result
  | .next s => .next (retire i s)
  | .fault r => .fault r
  | .refused r => .refused r

/-- Steps 3 to 8 of R100 for the instruction at pc: pc moves past the key, the operand bytes are read, the effect runs, the
instruction retires. -/
def runInstr (i : Instr) (s : State) : Result :=
  let t := s.advancePc i.keyLength
  match operandRead i t with
  | .error e => .next (t.raise e)
  | .ok _ => retireResult i (exec i t)

end Sys2Proof.Machine
end

