-- ==== Sys2Proof/Machine/Step.lean ====
section
/-! DEFINITION. One step of the block (30_encoding.md R100), and the placing of one instruction for it to run. -/

namespace Sys2Proof.Machine

/-- One iteration of the loop, enabled only when `run = Running` (R42, R100). -/
def step (s : State) : Host.Outcome State Fault Refusal :=
  match s.run with
  | .terminated e => .fault (.terminated e)
  | .stopped => .fault .stoppedUntilWake
  | .running => runInstr (fetch s) s

/-- `s` with the three bytes of a table word stored where `step` fetches, at pc and the two addresses after it, and running,
so that the very next step runs that instruction. It stands for the host's loading of a program (R331; log entry 9). -/
def State.withFetchWord (s : State) (nbits w : Nat) : State :=
  match tableBytes nbits w with
  | (b0, b1, b2) =>
    let pc := s.regs.pc
    (((s.write8 pc b0).write8 (pc + 1#16) b1).write8 (pc + 2#16) b2).setRun .running

end Sys2Proof.Machine
end

