-- ==== Sys2Proof/Machine/HostInterface.lean ====
section
/-! DEFINITION. What the host does to the machine (60_exceptions.md R321, R322, 70_reset_and_hazards.md R331). `wake()` stands
in Machine/Ops.lean (`State.wake`), `run` is `Host.Core.run`, and `stop` does nothing to the state. -/

namespace Sys2Proof.Machine

/-- Write bytes from an index on, in order; at the first failing write the writes before it stand (R331, D26). -/
def loadFrom : Nat → List Byte → Memory → Memory × Option FatalError
  | _, [], m => (m, none)
  | i, v :: rest, m =>
    match m.writeByte i v.toNat with
    | .ok m' => loadFrom (i + 1) rest m'
    | .error e => (m, some e)

/-- The host's `load(bytes)`: it writes memory and nothing else (R331, D31). An error goes to the host, which then does not
start the core. -/
def State.load (s : State) (bytes : List Byte) : State × Option FatalError :=
  match loadFrom 0 bytes s.mem with
  | (m, err) => (s.setMem m, err)

/-- A launch (R324, R330): reset, then the image the ROM loader supplies, or its report that validation failed, after which
the core is not started (R305). -/
def launch (image : Except String (List Byte)) : Except FatalError State :=
  match image with
  | .error report => .error (.romValidationError report)
  | .ok bytes =>
    match State.reset.load bytes with
    | (s, none) => .ok s
    | (_, some e) => .error e

/-- The `render()` call in step 8 of the step from `s`, where the hook comes every `period` retirements: the memory the hook
reads, which is that of the state after the retirement (R78, R321). There is a call exactly where the step retires its
instruction and the counter becomes a multiple of `period` (R43, R100 step 8, D16). A step that raises reaches no step 8, and
no state has a call of its own before a step. The hook writes nothing (D17), so no step depends on the call. -/
def State.renderCallAt (period : Nat) (s : State) : Option Memory :=
  match step s with
  | .next t => if t.retired = s.retired + 1 ∧ t.retired % period = 0 then some t.mem else none
  | .fault _ => none
  | .refused _ => none

/-- The `render()` call of the step from `s` at `RENDER_PERIOD_K` (R9, R321, R345). Log entry 4. -/
def State.renderCall (s : State) : Option Memory := s.renderCallAt Config.renderPeriod

/-- What the host may read between retired instructions: the register file and the byte at every address (R319, R322). -/
def State.snapshot (s : State) : RegFile × Memory := (s.regs, s.mem)

/-- IF, 0xFF0F (R32): a plain byte. -/
def addrIF : Word := 0xFF0F#16

/-- LCDC, 0xFF40 (R32): a plain byte, which the render hook reads (R321). -/
def addrLCDC : Word := 0xFF40#16

/-- SCY, 0xFF42 (R32): a plain byte. -/
def addrSCY : Word := 0xFF42#16

/-- SCX, 0xFF43 (R32): a plain byte. -/
def addrSCX : Word := 0xFF43#16

/-- The error an ended run surfaces to the embedding runtime (R309, R322). -/
def State.surfacedError (s : State) : Option FatalError :=
  match s.run with
  | .terminated e => some e
  | .running => none
  | .stopped => none

end Sys2Proof.Machine
end

