-- ==== Sys2Proof/Safety.lean ====
section
/-! DEFINITION. The terms the statements use: the invariant of a run, what an instruction may write, what entering a fatal
error leaves, and the numbers the encodings are built from. -/

namespace Sys2Proof

/-! ## The codes of the operand fields -/

/-- The 3-bit register code (R93). -/
def Reg8.code : Reg8 → Nat
  | .b => 0 | .c => 1 | .d => 2 | .e => 3 | .h => 4 | .l => 5 | .a => 7

/-- The 2-bit code of table rp (R96). -/
def Rp.code : Rp → Nat
  | .bc => 0 | .de => 1 | .hl => 2 | .sp => 3

/-- The 2-bit code of table rp2 (R96). -/
def Rp2.code : Rp2 → Nat
  | .bc => 0 | .de => 1 | .hl => 2 | .af => 3

/-- The 2-bit condition code (R97). -/
def Cond.code : Cond → Nat
  | .nz => 0 | .z => 1 | .nc => 2 | .c => 3

/-- The row of the ALU group: the base byte of its register forms is `0x80 + 8 * code` (R160 to R167). -/
def AluOp.code : AluOp → Nat
  | .add => 0 | .adc => 1 | .sub => 2 | .sbc => 3 | .and => 4 | .xor => 5 | .or => 6 | .cp => 7

/-- The row of the prefixed shift group (R214 to R229). -/
def ShiftOp.code : ShiftOp → Nat
  | .rlc => 0 | .rrc => 1 | .rl => 2 | .rr => 3 | .sla => 4 | .sra => 5 | .swap => 6 | .srl => 7

/-! ## Results in other words than the model's -/

/-- The carry flag as a byte. -/
def carryByte (c : Bool) : Byte := (BitVec.ofBool c).setWidth 8

/-- The new value of a rotate, a shift or SWAP, by the library's own rotates and shifts. -/
def ShiftOp.newValue (op : ShiftOp) (v : Byte) (cin : Bool) : Byte :=
  match op with
  | .rlc => v.rotateLeft 1
  | .rrc => v.rotateRight 1
  | .rl => (v <<< 1) ||| carryByte cin
  | .rr => (v >>> 1) ||| (carryByte cin <<< 7)
  | .sla => v <<< 1
  | .sra => v.sshiftRight 1
  | .swap => v.rotateLeft 4
  | .srl => v >>> 1

/-- The bit a rotate or a shift moves into C; SWAP clears C (R214 to R228). -/
def ShiftOp.bitOut (op : ShiftOp) (v : Byte) : Bool :=
  match op with
  | .rlc => v.getLsbD 7
  | .rrc => v.getLsbD 0
  | .rl => v.getLsbD 7
  | .rr => v.getLsbD 0
  | .sla => v.getLsbD 7
  | .sra => v.getLsbD 0
  | .swap => false
  | .srl => v.getLsbD 0

end Sys2Proof

namespace Sys2Proof.Machine

/-! ## The invariant -/

/-- What holds of every state of a run: memory keeps its canonical form (R60, R62), bits 3..0 of F are 0 (R23), and between
steps at most one deferred action is pending, with one tick to go (R10, R41, R342). -/
structure State.Inv (s : State) : Prop where
  memWf : s.mem.wf = true
  fLow : s.regs.f &&& 0x0F#8 = 0#8
  queueSettled : s.queue = [] ∨ ∃ effect, s.queue = [⟨1, effect⟩]

/-! ## Frames -/

/-- The parts of the state, other than memory, that an effect may write. -/
inductive Part where
  | reg (r : Reg8)
  | f
  | sp
  | pc
  | queue
  | run
deriving DecidableEq, Repr

/-- `t` differs from `s` in the listed parts and in the bytes at the listed addresses at most. A byte is the same byte as
another where the addresses canonicalize to one cell (R62). -/
structure OnlyWrites (parts : List Part) (stored : List Word) (s t : State) : Prop where
  reg8 : ∀ r, Part.reg r ∉ parts → t.reg8 r = s.reg8 r
  f : Part.f ∉ parts → t.regs.f = s.regs.f
  sp : Part.sp ∉ parts → t.regs.sp = s.regs.sp
  pc : Part.pc ∉ parts → t.regs.pc = s.regs.pc
  mem : ∀ a : Word, (∀ x ∈ stored, canon a.toNat ≠ canon x.toNat) → t.read8 a = s.read8 a
  queue : Part.queue ∉ parts → t.queue = s.queue
  run : Part.run ∉ parts → t.run = s.run
  retired : t.retired = s.retired
  freeDraws : t.freeDraws = s.freeDraws

/-- The four flags, with bits 3..0 of F zero (R23, R28). -/
structure FlagsAre (t : State) (z n h c : Bool) : Prop where
  z : t.flagZ = z
  n : t.flagN = n
  h : t.flagH = h
  c : t.flagC = c
  low : t.regs.f &&& 0x0F#8 = 0#8

/-- `t` is what entering the fatal error leaves (R309, R310): `run` holds the error, the queue was not ticked and the
instruction did not retire. Nothing is said of registers and memory. -/
structure Raised (err : FatalError) (s t : State) : Prop where
  run : t.run = .terminated err
  queue : t.queue = s.queue
  retired : t.retired = s.retired

/-- The instruction's 16-bit immediate does not fit below 0x10000: with the opcode at 0xFFFE the loop's operand read raises
AddressOutOfRange(0xFFFF) (R95, D4). -/
def Imm16Raises (i : Instr) : Prop :=
  ∀ s : State, s.regs.pc = 0xFFFE#16 → ∃ t, runInstr i s = .next t ∧ Raised (.addressOutOfRange 0xFFFF) s t

/-- Whether a run state is Terminated. -/
def RunState.isTerminated : RunState → Bool
  | .terminated _ => true
  | .running => false
  | .stopped => false

/-! ## Encodings -/

/-- The instruction's bytes and its record's `byte_length` and `owns_pc` (R90, R98, R99). -/
def Encodes (i : Instr) (bytes : List Byte) (byteLength : Nat) (ownsPc : Bool) : Prop :=
  encode i = bytes ∧ i.byteLength = byteLength ∧ i.ownsPc = ownsPc

/-- A byte given by its number. -/
abbrev byte (n : Nat) : Byte := BitVec.ofNat 8 n

/-- The parts that a write to an operand of table rp writes. -/
def rpParts : Rp → List Part
  | .bc => [.reg .b, .reg .c]
  | .de => [.reg .d, .reg .e]
  | .hl => [.reg .h, .reg .l]
  | .sp => [.sp]

/-- The parts that a write to an operand of table rp2 writes. -/
def rp2Parts : Rp2 → List Part
  | .bc => [.reg .b, .reg .c]
  | .de => [.reg .d, .reg .e]
  | .hl => [.reg .h, .reg .l]
  | .af => [.reg .a, .f]

/-- The three encodings of one operation of the ALU group (R94, R160 to R167). -/
def AluEncodes (op : AluOp) : Prop :=
  (∀ r : Reg8, Encodes (.aluReg op r) [byte (0x80 + 8 * op.code + r.code)] 1 false) ∧
  Encodes (.aluInd op) [byte (0x80 + 8 * op.code + 6)] 1 false ∧
  ∀ n : Byte, Encodes (.aluImm op n) [byte (0xC6 + 8 * op.code), n] 2 false

/-- `P` of the operation with each source operand and that operand's value (R94). -/
def ForEachSource (op : AluOp) (s : State) (P : Instr → Byte → Prop) : Prop :=
  (∀ r : Reg8, P (.aluReg op r) (s.reg8 r)) ∧ P (.aluInd op) (s.read8 s.hl) ∧ ∀ n : Byte, P (.aluImm op n) n

end Sys2Proof.Machine
end

