-- ==== Sys2Proof/Certificates/Slice0/Obligations.lean ====
section
/-! DEFINITION. The statements for the provers. Each docstring names the rules of spec/ it formalises. A statement about a
family of instructions is made through that family's constructor function of Sys2Proof/Decode.lean (`Instr.ldRegReg` and the
like), whose values are the constructors its statement text in OBLIGATIONS.json lists. -/

open Sys2Proof Sys2Proof.Machine

/-! ## Encoding -/

/-- Decoding the bytes of a well-formed instruction, whatever follows them, gives the instruction and what follows (R90,
R91, R98). -/
def Obligations.DecodeOfEncode : Prop :=
  ∀ (i : Instr) (rest : List Byte), i.wf = true → decode (encode i ++ rest) = .ok (i, rest)

/-- Any three bytes begin with a well-formed instruction whose encoding they begin with: decoding drops no bit of the bytes
it takes (R91, R101 to R103). -/
def Obligations.EncodeOfDecode : Prop :=
  ∀ b0 b1 b2 : Byte, (decodeBytes b0 b1 b2).wf = true ∧ encode (decodeBytes b0 b1 b2) <+: [b0, b1, b2]

/-- The lengths of R90 and R98. For the undefined keys, which have no record and of which R106 says that the ten single bytes
have no length, `byteLength` is the model's choice of log entry 14 (DESIGN CHOICE). -/
def Obligations.LengthIsKeyPlusOperands : Prop :=
  ∀ i : Instr, i.byteLength = 1 + i.operands.length ∧ i.length = (encode i).length ∧
    1 ≤ i.length ∧ i.length ≤ 3 ∧ (i.keyLength = 2 → i.byteLength = 1)

/-- Words written out from R92, R93, R96, R97 and R109 decode to their instructions. -/
def Obligations.SpecWordsDecode : Prop :=
  decode [0b00000000#8] = .ok (.nop, []) ∧ decode [0b00111110#8, 0x0F#8] = .ok (.ld_A_n8 0x0F#8, []) ∧
  decode [0b10000000#8] = .ok (.add_A_B, []) ∧ decode [0b11001101#8, 0x12#8, 0x34#8] = .ok (.call_a16 0x3412#16, []) ∧
  decode [0xCB#8, 0b01000000#8] = .ok (.bit_0_B, []) ∧ decode [0b00111000#8, 0xFE#8] = .ok (.jr_C_e8 0xFE#8, []) ∧
  decode [0b11110001#8] = .ok (.pop_AF, []) ∧ decode [0b01110110#8] = .ok (.halt, []) ∧
  decode [0xED#8, 0x00#8] = .ok (.escape_ED 0x00#8, []) ∧ decode [0b11010011#8] = .ok (.undefinedKey 0xD3#8, [])

/-- Exactly the ten plain bytes of R101 and the escape 0xED of R102 decode to an undefined key. -/
def Obligations.UndefinedKeysAreExact : Prop :=
  ∀ b0 b1 b2 : Byte,
    (∀ key, decodeBytes b0 b1 b2 = .undefinedKey key ↔ b0 = key ∧ undefinedPlainKeys.contains b0 = true) ∧
    (∀ xx, decodeBytes b0 b1 b2 = .escape_ED xx ↔ b0 = 0xED#8 ∧ b1 = xx)

/-- `owns_pc` holds of the control transfers and of nothing else (R99). -/
def Obligations.OwnsPcExactlyControl : Prop :=
  ∀ i : Instr, i.ownsPc = true ↔
    (∃ a, i = .jp_a16 a) ∨ (∃ cc a, i = .jpCond cc a) ∨ i = .jp_HL ∨ (∃ e, i = .jr_e8 e) ∨ (∃ cc e, i = .jrCond cc e) ∨
    (∃ a, i = .call_a16 a) ∨ (∃ cc a, i = .callCond cc a) ∨ i = .ret ∨ (∃ cc, i = .retCond cc) ∨ i = .reti ∨
    ∃ y, i = .rstTo y

/-! ## The memory bus -/

/-- The bounds of byte and word accesses (R61). -/
def Obligations.BusAccessBounds : Prop :=
  ∀ (m : Memory) (a v : Int) (w : Word),
    ((0 ≤ a ∧ a ≤ 65535) → (∃ x, m.readByte a = .ok x) ∧ ∃ m', m.writeByte a v = .ok m') ∧
    (¬(0 ≤ a ∧ a ≤ 65535) →
      m.readByte a = .error (.addressOutOfRange a) ∧ m.writeByte a v = .error (.addressOutOfRange a)) ∧
    ((0 ≤ a ∧ a ≤ 65534) → (∃ x, m.readWord a = .ok x) ∧ ∃ m', m.writeWord a w = .ok m') ∧
    (¬(0 ≤ a ∧ a ≤ 65534) →
      m.readWord a = .error (.addressOutOfRange a) ∧ m.writeWord a w = .error (.addressOutOfRange a))

/-- A byte write changes one cell, which every alias of the address reads, and truncates the value (R62, R63, R64). -/
def Obligations.ByteWriteChangesOneCell : Prop :=
  ∀ (m : Memory) (a v b : Int), 0 ≤ a → a ≤ 65535 → 0 ≤ b → b ≤ 65535 →
    ∃ m', m.writeByte a v = .ok m' ∧
      m'.readByte b = if canon b.toNat = canon a.toNat then .ok (BitVec.ofInt 8 v) else m.readByte b

/-- Work RAM and echo RAM observe the same contents, and nothing else is mirrored (R62). -/
def Obligations.EchoMirrorsWorkRam : Prop :=
  ∀ a b : Nat, a ≤ 0xFFFF → b ≤ 0xFFFF →
    (canon a = canon b ↔ a = b ∨ (0xC000 ≤ a ∧ a ≤ 0xDDFF ∧ b = a + 0x2000) ∨ (0xC000 ≤ b ∧ b ≤ 0xDDFF ∧ a = b + 0x2000))

/-- A word is little-endian: its low byte is at its address and its high byte at the next, each canonicalized on its own
(R65, R66, R69). -/
def Obligations.WordsAreLittleEndian : Prop :=
  ∀ (m : Memory) (a : Int) (v : Word), 0 ≤ a → a ≤ 65534 →
    (∃ lo hi, m.readByte a = .ok lo ∧ m.readByte (a + 1) = .ok hi ∧
      m.readWord a = .ok (BitVec.ofNat 16 (lo.toNat + 256 * hi.toNat))) ∧
    ∃ m', m.writeWord a v = .ok m' ∧ m'.readWord a = .ok v ∧
      m'.readByte a = .ok (BitVec.ofNat 8 v.toNat) ∧ m'.readByte (a + 1) = .ok (BitVec.ofNat 8 (v.toNat / 256)) ∧
      ∀ b : Int, 0 ≤ b → b ≤ 65535 → canon b.toNat ≠ canon a.toNat → canon b.toNat ≠ canon (a.toNat + 1) →
        m'.readByte b = m.readByte b

/-- Every write of the bus keeps memory's canonical form, and the form is canonical: memories in it that read alike are
equal. The form is the model's representation (log entry 10), no rule of the spec. -/
def Obligations.CanonicalFormIsKeptAndUnique : Prop :=
  (∀ (m m' : Memory) (a v : Int) (w : Word), m.wf = true →
    (m.writeByte a v = .ok m' → m'.wf = true) ∧ (m.writeWord a w = .ok m' → m'.wf = true)) ∧
  ∀ m m' : Memory, m.wf = true → m'.wf = true → (∀ a : Word, m.peek a = m'.peek a) → m = m'

/-- Signed reads and sign extension (R11, R68). -/
def Obligations.SignedReadsAreTwosComplement : Prop :=
  (∀ v : Byte, signed8 v = v.toInt ∧ (sext16 v).toNat = if v.toNat < 0x80 then v.toNat else v.toNat + 0xFF00) ∧
  (∀ (m : Memory) (a : Int) (v : Byte), m.readByte a = .ok v → m.readSigned8 a = .ok v.toInt) ∧
  (∀ (m : Memory) (a : Int) (v : Word), m.readWord a = .ok v → m.readSigned16 a = .ok v.toInt)

/-- A pair reads as its two registers, the first letter high, and reads back what was written; AF reads back with bits 3..0
zero (R22, R23). -/
def Obligations.PairsReadBack : Prop :=
  ∀ (s : State) (v : Word),
    s.af.toNat = 256 * s.regs.a.toNat + s.regs.f.toNat ∧ s.bc.toNat = 256 * s.regs.b.toNat + s.regs.c.toNat ∧
    s.de.toNat = 256 * s.regs.d.toNat + s.regs.e.toNat ∧ s.hl.toNat = 256 * s.regs.h.toNat + s.regs.l.toNat ∧
    (∀ p : Rp, (s.setRp p v).rp p = v) ∧ (s.setAf v).af = v &&& 0xFFF0#16 ∧
    (s.setBc v).regs.b = hiByte v ∧ (s.setBc v).regs.c = loByte v ∧ (s.setDe v).regs.d = hiByte v ∧
    (s.setDe v).regs.e = loByte v ∧ (s.setHl v).regs.h = hiByte v ∧ (s.setHl v).regs.l = loByte v ∧
    (s.setAf v).regs.a = hiByte v ∧ (s.setAf v).regs.f = loByte v &&& 0xF0#8

/-! ## Loads and stores -/

/-- `LD r,r'`, `LD r,n8` and `LD (HL),n8` (R120, R121, R124). -/
def Obligations.LdRegisterAndImmediate : Prop :=
  ∀ (dst src : Reg8) (n : Byte) (s : State),
    (Encodes (.ldRegReg dst src) [byte (0x40 + 8 * dst.code + src.code)] 1 false ∧
      ∃ t, exec (.ldRegReg dst src) s = .next t ∧ t.reg8 dst = s.reg8 src ∧ OnlyWrites [.reg dst] [] s t) ∧
    (Encodes (.ldImm8 (.reg dst) n) [byte (0x06 + 8 * dst.code), n] 2 false ∧
      ∃ t, exec (.ldImm8 (.reg dst) n) s = .next t ∧ t.reg8 dst = n ∧ OnlyWrites [.reg dst] [] s t) ∧
    (Encodes (.ld_iHL_n8 n) [0x36#8, n] 2 false ∧
      ∃ t, exec (.ld_iHL_n8 n) s = .next t ∧ t.read8 s.hl = n ∧ OnlyWrites [] [s.hl] s t)

/-- `LD r,(HL)` and `LD (HL),r` (R122, R123). -/
def Obligations.LdThroughHL : Prop :=
  ∀ (r : Reg8) (s : State),
    (Encodes (.ldRegInd r) [byte (0x46 + 8 * r.code)] 1 false ∧
      ∃ t, exec (.ldRegInd r) s = .next t ∧ t.reg8 r = s.read8 s.hl ∧ OnlyWrites [.reg r] [] s t) ∧
    (Encodes (.ldIndReg r) [byte (0x70 + r.code)] 1 false ∧
      ∃ t, exec (.ldIndReg r) s = .next t ∧ t.read8 s.hl = s.reg8 r ∧ OnlyWrites [] [s.hl] s t)

/-- The loads of A (R125, R126, R129, R131, R133). -/
def Obligations.LdAccumulatorFromMemory : Prop :=
  (∀ (i : Instr) (addr : Word) (s : State),
    (i = .ld_A_iBC ∧ addr = s.bc) ∨ (i = .ld_A_iDE ∧ addr = s.de) ∨ i = .ld_A_ia16 addr ∨
      (∃ n, i = .ldh_A_ia8 n ∧ addr = 0xFF00#16 + n.setWidth 16) ∨
      (i = .ld_A_iC ∧ addr = 0xFF00#16 + s.regs.c.setWidth 16) →
    ∃ t, exec i s = .next t ∧ t.regs.a = s.read8 addr ∧ OnlyWrites [.reg .a] [] s t) ∧
  (∀ (a : Word) (n : Byte), Encodes .ld_A_iBC [0x0A#8] 1 false ∧ Encodes .ld_A_iDE [0x1A#8] 1 false ∧
    Encodes (.ld_A_ia16 a) [0xFA#8, loByte a, hiByte a] 3 false ∧ Encodes (.ldh_A_ia8 n) [0xF0#8, n] 2 false ∧
    Encodes .ld_A_iC [0xF2#8] 1 false ∧ Imm16Raises (.ld_A_ia16 a))

/-- The stores of A (R127, R128, R130, R132, R134). -/
def Obligations.StAccumulatorToMemory : Prop :=
  (∀ (i : Instr) (addr : Word) (s : State),
    (i = .ld_iBC_A ∧ addr = s.bc) ∨ (i = .ld_iDE_A ∧ addr = s.de) ∨ i = .ld_ia16_A addr ∨
      (∃ n, i = .ldh_ia8_A n ∧ addr = highPage n) ∨ (i = .ld_iC_A ∧ addr = highPage s.regs.c) →
    ∃ t, exec i s = .next t ∧ t.read8 addr = s.regs.a ∧ OnlyWrites [] [addr] s t) ∧
  (∀ n : Byte, highPage n = 0xFF00#16 + n.setWidth 16) ∧
  (∀ (a : Word) (n : Byte), Encodes .ld_iBC_A [0x02#8] 1 false ∧ Encodes .ld_iDE_A [0x12#8] 1 false ∧
    Encodes (.ld_ia16_A a) [0xEA#8, loByte a, hiByte a] 3 false ∧ Encodes (.ldh_ia8_A n) [0xE0#8, n] 2 false ∧
    Encodes .ld_iC_A [0xE2#8] 1 false ∧ Imm16Raises (.ld_ia16_A a))

/-- The post-increment and post-decrement stores and loads of A (R135 to R138). -/
def Obligations.LdAccumulatorMovesHL : Prop :=
  ∀ s : State,
    (Encodes .ld_iHLinc_A [0x22#8] 1 false ∧ ∃ t, exec .ld_iHLinc_A s = .next t ∧ t.read8 s.hl = s.regs.a ∧
      t.hl = s.hl + 1#16 ∧ OnlyWrites [.reg .h, .reg .l] [s.hl] s t) ∧
    (Encodes .ld_iHLdec_A [0x32#8] 1 false ∧ ∃ t, exec .ld_iHLdec_A s = .next t ∧ t.read8 s.hl = s.regs.a ∧
      t.hl = s.hl - 1#16 ∧ OnlyWrites [.reg .h, .reg .l] [s.hl] s t) ∧
    (Encodes .ld_A_iHLinc [0x2A#8] 1 false ∧ ∃ t, exec .ld_A_iHLinc s = .next t ∧ t.regs.a = s.read8 s.hl ∧
      t.hl = s.hl + 1#16 ∧ OnlyWrites [.reg .a, .reg .h, .reg .l] [] s t) ∧
    (Encodes .ld_A_iHLdec [0x3A#8] 1 false ∧ ∃ t, exec .ld_A_iHLdec s = .next t ∧ t.regs.a = s.read8 s.hl ∧
      t.hl = s.hl - 1#16 ∧ OnlyWrites [.reg .a, .reg .h, .reg .l] [] s t)

/-- `LD rr,n16` and `LD SP,HL` (R139, R142). -/
def Obligations.LdSixteenBit : Prop :=
  ∀ (p : Rp) (n : Word) (s : State),
    (Encodes (.ldRpImm p n) [byte (0x01 + 16 * p.code), loByte n, hiByte n] 3 false ∧ Imm16Raises (.ldRpImm p n) ∧
      ∃ t, exec (.ldRpImm p n) s = .next t ∧ t.rp p = n ∧ OnlyWrites (rpParts p) [] s t) ∧
    (Encodes .ld_SP_HL [0xF9#8] 1 false ∧
      ∃ t, exec .ld_SP_HL s = .next t ∧ t.regs.sp = s.hl ∧ OnlyWrites [.sp] [] s t)

/-- `LD (a16),SP` (R143): at 0xFFFF it raises and no byte is written first. -/
def Obligations.StStackPointer : Prop :=
  ∀ (a : Word) (s : State),
    Encodes (.ld_ia16_SP a) [0x08#8, loByte a, hiByte a] 3 false ∧ Imm16Raises (.ld_ia16_SP a) ∧
    (a ≠ 0xFFFF#16 → ∃ t, exec (.ld_ia16_SP a) s = .next t ∧ t.read8 a = loByte s.regs.sp ∧
      t.read8 (a + 1#16) = hiByte s.regs.sp ∧ OnlyWrites [] [a, a + 1#16] s t) ∧
    (a = 0xFFFF#16 → s.mem.writeWord 0xFFFF s.regs.sp = .error (.addressOutOfRange 0xFFFF) ∧
      ∃ t, exec (.ld_ia16_SP a) s = .next t ∧ Raised (.addressOutOfRange 0xFFFF) s t)

/-- `PUSH rr` (R140, R75): the low register at the new SP, the high register above it; from SP = 0x0001 it raises. -/
def Obligations.PushStoresPairBelow : Prop :=
  ∀ (p : Rp2) (s : State),
    Encodes (.pushRp p) [byte (0xC5 + 16 * p.code)] 1 false ∧
    (s.regs.sp ≠ 0x0001#16 → ∃ t, exec (.pushRp p) s = .next t ∧ t.regs.sp = s.regs.sp - 2#16 ∧
      t.read8 (s.regs.sp - 2#16) = loByte (s.rp2 p) ∧ t.read8 (s.regs.sp - 1#16) = hiByte (s.rp2 p) ∧
      OnlyWrites [.sp] [s.regs.sp - 2#16, s.regs.sp - 1#16] s t) ∧
    (s.regs.sp = 0x0001#16 → ∃ t, exec (.pushRp p) s = .next t ∧ Raised (.addressOutOfRange 0xFFFF) s t)

/-- `POP rr` (R141, R76); POP AF writes the four flags from the popped byte; at SP = 0xFFFF it raises. -/
def Obligations.PopLoadsPair : Prop :=
  ∀ (p : Rp2) (s : State),
    Encodes (.popRp p) [byte (0xC1 + 16 * p.code)] 1 false ∧
    (s.regs.sp ≠ 0xFFFF#16 → ∃ t, exec (.popRp p) s = .next t ∧ t.regs.sp = s.regs.sp + 2#16 ∧
      hiByte (t.rp2 p) = s.read8 (s.regs.sp + 1#16) ∧
      (p ≠ .af → loByte (t.rp2 p) = s.read8 s.regs.sp) ∧
      (p = .af → FlagsAre t ((s.read8 s.regs.sp).getLsbD 7) ((s.read8 s.regs.sp).getLsbD 6)
        ((s.read8 s.regs.sp).getLsbD 5) ((s.read8 s.regs.sp).getLsbD 4)) ∧
      OnlyWrites (.sp :: rp2Parts p) [] s t) ∧
    (s.regs.sp = 0xFFFF#16 → ∃ t, exec (.popRp p) s = .next t ∧ Raised (.addressOutOfRange 0xFFFF) s t)

/-! ## 8-bit arithmetic and logic -/

/-- ADD and ADC (R160, R161). -/
def Obligations.AddAndAddWithCarry : Prop :=
  ∀ s : State, ∀ op ∈ [AluOp.add, AluOp.adc], AluEncodes op ∧
    ForEachSource op s fun i v =>
      let cin := if op = .adc ∧ s.flagC then 1 else 0
      let sum := s.regs.a.toNat + v.toNat + cin
      let new := BitVec.ofNat 8 sum
      ∃ t, exec i s = .next t ∧ t.regs.a = new ∧
        FlagsAre t (new = 0#8) false (((s.regs.a ^^^ v ^^^ new) &&& 0x10#8) ≠ 0#8) (sum ≥ 256) ∧
        (t.flagH = true ↔ s.regs.a.toNat % 16 + v.toNat % 16 + cin > 0xF) ∧
        OnlyWrites [.reg .a, .f] [] s t

/-- SUB and SBC (R162, R163). -/
def Obligations.SubAndSubWithCarry : Prop :=
  ∀ s : State, ∀ op ∈ [AluOp.sub, AluOp.sbc], AluEncodes op ∧
    ForEachSource op s fun i v =>
      let cin : Int := if op = .sbc ∧ s.flagC then 1 else 0
      let diff : Int := s.regs.a.toNat - v.toNat - cin
      let new := BitVec.ofInt 8 diff
      ∃ t, exec i s = .next t ∧ t.regs.a = new ∧
        FlagsAre t (new = 0#8) true (((s.regs.a ^^^ v ^^^ new) &&& 0x10#8) ≠ 0#8) (diff < 0) ∧
        (t.flagH = true ↔ ((s.regs.a.toNat % 16 : Nat) : Int) - ((v.toNat % 16 : Nat) : Int) - cin < 0) ∧
        OnlyWrites [.reg .a, .f] [] s t

/-- CP leaves A and sets the flags of SUB (R167). -/
def Obligations.CompareSetsFlagsOnly : Prop :=
  ∀ s : State, AluEncodes .cp ∧
    ForEachSource .cp s fun i v =>
      let new := s.regs.a - v
      ∃ t, exec i s = .next t ∧
        FlagsAre t (s.regs.a = v) true (((s.regs.a ^^^ v ^^^ new) &&& 0x10#8) ≠ 0#8) (s.regs.a.toNat < v.toNat) ∧
        OnlyWrites [.f] [] s t

/-- AND, XOR and OR (R164, R165, R166). -/
def Obligations.LogicOnAccumulator : Prop :=
  ∀ s : State,
    (AluEncodes .and ∧ ForEachSource .and s fun i v => ∃ t, exec i s = .next t ∧ t.regs.a = s.regs.a &&& v ∧
      FlagsAre t (s.regs.a &&& v = 0#8) false true false ∧ OnlyWrites [.reg .a, .f] [] s t) ∧
    (AluEncodes .xor ∧ ForEachSource .xor s fun i v => ∃ t, exec i s = .next t ∧ t.regs.a = s.regs.a ^^^ v ∧
      FlagsAre t (s.regs.a ^^^ v = 0#8) false false false ∧ OnlyWrites [.reg .a, .f] [] s t) ∧
    (AluEncodes .or ∧ ForEachSource .or s fun i v => ∃ t, exec i s = .next t ∧ t.regs.a = s.regs.a ||| v ∧
      FlagsAre t (s.regs.a ||| v = 0#8) false false false ∧ OnlyWrites [.reg .a, .f] [] s t)

/-- `INC r`, `INC (HL)`, `DEC r` and `DEC (HL)`: C is unchanged (R168 to R171). -/
def Obligations.IncrementAndDecrementByte : Prop :=
  ∀ s : State,
    (∀ r : Reg8, Encodes (.inc8 (.reg r)) [byte (0x04 + 8 * r.code)] 1 false ∧
      let old := s.reg8 r
      ∃ t, exec (.inc8 (.reg r)) s = .next t ∧ t.reg8 r = old + 1#8 ∧
        FlagsAre t (old = 0xFF#8) false (old &&& 0x0F#8 = 0x0F#8) s.flagC ∧ OnlyWrites [.reg r, .f] [] s t) ∧
    (Encodes .inc_iHL [0x34#8] 1 false ∧
      let old := s.read8 s.hl
      ∃ t, exec .inc_iHL s = .next t ∧ t.read8 s.hl = old + 1#8 ∧
        FlagsAre t (old = 0xFF#8) false (old &&& 0x0F#8 = 0x0F#8) s.flagC ∧ OnlyWrites [.f] [s.hl] s t) ∧
    (∀ r : Reg8, Encodes (.dec8 (.reg r)) [byte (0x05 + 8 * r.code)] 1 false ∧
      let old := s.reg8 r
      ∃ t, exec (.dec8 (.reg r)) s = .next t ∧ t.reg8 r = old - 1#8 ∧
        FlagsAre t (old = 0x01#8) true (old &&& 0x0F#8 = 0x00#8) s.flagC ∧ OnlyWrites [.reg r, .f] [] s t) ∧
    (Encodes .dec_iHL [0x35#8] 1 false ∧
      let old := s.read8 s.hl
      ∃ t, exec .dec_iHL s = .next t ∧ t.read8 s.hl = old - 1#8 ∧
        FlagsAre t (old = 0x01#8) true (old &&& 0x0F#8 = 0x00#8) s.flagC ∧ OnlyWrites [.f] [s.hl] s t)

/-- CPL, SCF and CCF (R172, R173, R174). -/
def Obligations.ComplementAndCarryFlag : Prop :=
  ∀ s : State,
    (Encodes .cpl [0x2F#8] 1 false ∧ ∃ t, exec .cpl s = .next t ∧ t.regs.a = ~~~s.regs.a ∧
      FlagsAre t s.flagZ true true s.flagC ∧ OnlyWrites [.reg .a, .f] [] s t) ∧
    (Encodes .scf [0x37#8] 1 false ∧ ∃ t, exec .scf s = .next t ∧
      FlagsAre t s.flagZ false false true ∧ OnlyWrites [.f] [] s t) ∧
    (Encodes .ccf [0x3F#8] 1 false ∧ ∃ t, exec .ccf s = .next t ∧
      FlagsAre t s.flagZ false false (!s.flagC) ∧ OnlyWrites [.f] [] s t)

/-- DAA, HALT and SWAP (HL) raise UnimplementedOpcode always (R175, R283, R229), and no other instruction does (R104); an
undefined key and the escape 0xED raise UndefinedOpcode (R101, R102). -/
def Obligations.ErrorEntriesRaise : Prop :=
  (∀ (key : Byte) (s : State),
    (∃ t, exec .daa s = .next t ∧ Raised (.unimplementedOpcode (.plain 0x27#8)) s t) ∧
    (∃ t, exec .halt s = .next t ∧ Raised (.unimplementedOpcode (.plain 0x76#8)) s t) ∧
    (∃ t, exec .swap_iHL s = .next t ∧ Raised (.unimplementedOpcode (.extended 0xCB#8 0x36#8)) s t) ∧
    (∃ t, exec (.undefinedKey key) s = .next t ∧ Raised (.undefinedOpcode (.plain key)) s t) ∧
    ∃ t, exec (.escape_ED key) s = .next t ∧ Raised (.undefinedOpcode (.extended 0xED#8 key)) s t) ∧
  Encodes .daa [0x27#8] 1 false ∧ Encodes .halt [0x76#8] 1 false ∧ Encodes .swap_iHL [0xCB#8, 0x36#8] 1 false ∧
  ∀ (i : Instr) (s t : State) (key : OpcodeKey), s.run = .running → exec i s = .next t →
    t.run = .terminated (.unimplementedOpcode key) → i = .daa ∨ i = .halt ∨ i = .swap_iHL

/-! ## 16-bit arithmetic -/

/-- `ADD HL,rr`: Z is unchanged (R190). -/
def Obligations.AddPairToHL : Prop :=
  ∀ (p : Rp) (s : State), Encodes (.addHL p) [byte (0x09 + 16 * p.code)] 1 false ∧
    let old := s.hl
    let v := s.rp p
    let sum := old.toNat + v.toNat
    let new := BitVec.ofNat 16 sum
    ∃ t, exec (.addHL p) s = .next t ∧ t.hl = new ∧
      FlagsAre t s.flagZ false (((old ^^^ v ^^^ new) &&& 0x1000#16) ≠ 0#16) (sum ≥ 65536) ∧
      (t.flagH = true ↔ old.toNat % 4096 + v.toNat % 4096 ≥ 4096) ∧
      OnlyWrites [.reg .h, .reg .l, .f] [] s t

/-- `INC rr` and `DEC rr` write no flag (R191, R192). -/
def Obligations.IncDecPairWritesNoFlag : Prop :=
  ∀ (p : Rp) (s : State),
    (Encodes (.incRp p) [byte (0x03 + 16 * p.code)] 1 false ∧
      ∃ t, exec (.incRp p) s = .next t ∧ t.rp p = s.rp p + 1#16 ∧ OnlyWrites (rpParts p) [] s t) ∧
    (Encodes (.decRp p) [byte (0x0B + 16 * p.code)] 1 false ∧
      ∃ t, exec (.decRp p) s = .next t ∧ t.rp p = s.rp p - 1#16 ∧ OnlyWrites (rpParts p) [] s t)

/-- `ADD SP,e8` and `LD HL,SP+e8` (R193, R194): carries out of bits 11 and 15, Z and N forced to 0. -/
def Obligations.AddSignedToSP : Prop :=
  ∀ (e : Byte) (s : State),
    let old := s.regs.sp
    let v : Word := BitVec.ofInt 16 (signed8 e)
    let sum := old.toNat + v.toNat
    let new := BitVec.ofNat 16 sum
    new = BitVec.ofInt 16 (old.toNat + signed8 e) ∧
    (Encodes (.add_SP_e8 e) [0xE8#8, e] 2 false ∧ ∃ t, exec (.add_SP_e8 e) s = .next t ∧ t.regs.sp = new ∧
      FlagsAre t false false (((old ^^^ v ^^^ new) &&& 0x1000#16) ≠ 0#16) (sum ≥ 65536) ∧ OnlyWrites [.sp, .f] [] s t) ∧
    (Encodes (.ld_HL_SPe8 e) [0xF8#8, e] 2 false ∧ ∃ t, exec (.ld_HL_SPe8 e) s = .next t ∧ t.hl = new ∧
      FlagsAre t false false (((old ^^^ v ^^^ new) &&& 0x1000#16) ≠ 0#16) (sum ≥ 65536) ∧
      OnlyWrites [.reg .h, .reg .l, .f] [] s t)

/-! ## Rotates, shifts and bits -/

/-- RLCA, RLA, RRCA, RRA: Z reflects the new value (R210 to R213). -/
def Obligations.AccumulatorRotates : Prop :=
  ∀ s : State, ∀ x ∈ [(Instr.rlca, 0x07#8, ShiftOp.rlc), (.rla, 0x17#8, .rl), (.rrca, 0x0F#8, .rrc), (.rra, 0x1F#8, .rr)],
    Encodes x.1 [x.2.1] 1 false ∧
    let new := x.2.2.newValue s.regs.a s.flagC
    ∃ t, exec x.1 s = .next t ∧ t.regs.a = new ∧ FlagsAre t (new = 0#8) false false (x.2.2.bitOut s.regs.a) ∧
      OnlyWrites [.reg .a, .f] [] s t

/-- The prefixed rotates, shifts and SWAP of a register (R214, R216, R218, R220, R222, R224, R226, R228). -/
def Obligations.ShiftRegisterForms : Prop :=
  ∀ (op : ShiftOp) (r : Reg8) (s : State),
    Encodes (.shiftReg op r) [0xCB#8, byte (8 * op.code + r.code)] 1 false ∧
    let new := op.newValue (s.reg8 r) s.flagC
    ∃ t, exec (.shiftReg op r) s = .next t ∧ t.reg8 r = new ∧
      FlagsAre t (new = 0#8) false false (op.bitOut (s.reg8 r)) ∧ OnlyWrites [.reg r, .f] [] s t

/-- The prefixed rotates and shifts of the byte at HL (R215, R217, R219, R221, R223, R225, R227). SWAP (HL) is
`ErrorEntriesRaise`. -/
def Obligations.ShiftMemoryForms : Prop :=
  ∀ (op : ShiftOp) (s : State), op ≠ .swap →
    Encodes (.shiftInd op) [0xCB#8, byte (8 * op.code + 6)] 1 false ∧
    let new := op.newValue (s.read8 s.hl) s.flagC
    ∃ t, exec (.shiftInd op) s = .next t ∧ t.read8 s.hl = new ∧
      FlagsAre t (new = 0#8) false false (op.bitOut (s.read8 s.hl)) ∧ OnlyWrites [.f] [s.hl] s t

/-- BIT (R230, R231): C is unchanged, nothing but F is written. -/
def Obligations.BitTestsOneBit : Prop :=
  ∀ (b : Fin 8) (s : State),
    (∀ r : Reg8, Encodes (.bitReg b r) [0xCB#8, byte (0x40 + 8 * b.val + r.code)] 1 false ∧
      ∃ t, exec (.bitReg b r) s = .next t ∧ FlagsAre t (!(s.reg8 r).getLsbD b.val) false true s.flagC ∧
        OnlyWrites [.f] [] s t) ∧
    (Encodes (.bitInd b) [0xCB#8, byte (0x46 + 8 * b.val)] 1 false ∧
      ∃ t, exec (.bitInd b) s = .next t ∧ FlagsAre t (!(s.read8 s.hl).getLsbD b.val) false true s.flagC ∧
        OnlyWrites [.f] [] s t)

/-- RES and SET (R232 to R235): the bit becomes 0 or 1, the other bits and the flags stay. -/
def Obligations.ResAndSetChangeOneBit : Prop :=
  ∀ (b : Fin 8) (s : State),
    (∀ r : Reg8, Encodes (.resReg b r) [0xCB#8, byte (0x80 + 8 * b.val + r.code)] 1 false ∧
      ∃ t, exec (.resReg b r) s = .next t ∧
        (∀ k < 8, (t.reg8 r).getLsbD k = if k = b.val then false else (s.reg8 r).getLsbD k) ∧
        OnlyWrites [.reg r] [] s t) ∧
    (Encodes (.resInd b) [0xCB#8, byte (0x86 + 8 * b.val)] 1 false ∧
      ∃ t, exec (.resInd b) s = .next t ∧
        (∀ k < 8, (t.read8 s.hl).getLsbD k = if k = b.val then false else (s.read8 s.hl).getLsbD k) ∧
        OnlyWrites [] [s.hl] s t) ∧
    (∀ r : Reg8, Encodes (.setReg b r) [0xCB#8, byte (0xC0 + 8 * b.val + r.code)] 1 false ∧
      ∃ t, exec (.setReg b r) s = .next t ∧
        (∀ k < 8, (t.reg8 r).getLsbD k = if k = b.val then true else (s.reg8 r).getLsbD k) ∧
        OnlyWrites [.reg r] [] s t) ∧
    (Encodes (.setInd b) [0xCB#8, byte (0xC6 + 8 * b.val)] 1 false ∧
      ∃ t, exec (.setInd b) s = .next t ∧
        (∀ k < 8, (t.read8 s.hl).getLsbD k = if k = b.val then true else (s.read8 s.hl).getLsbD k) ∧
        OnlyWrites [] [s.hl] s t)

/-! ## Control transfer -/

/-- The conditions, `JP a16`, `JP cc,a16` and `JP HL` (R250, R251, R252, R253). -/
def Obligations.JumpsSetPc : Prop :=
  ∀ (cc : Cond) (a : Word) (s : State),
    (s.cond cc = match cc with
      | .nz => !s.regs.f.getLsbD 7
      | .z => s.regs.f.getLsbD 7
      | .nc => !s.regs.f.getLsbD 4
      | .c => s.regs.f.getLsbD 4) ∧
    (Encodes (.jp_a16 a) [0xC3#8, loByte a, hiByte a] 3 true ∧ Imm16Raises (.jp_a16 a) ∧
      ∃ t, exec (.jp_a16 a) s = .next t ∧ t.regs.pc = a ∧ OnlyWrites [.pc] [] s t) ∧
    (Encodes (.jpCond cc a) [byte (0xC2 + 8 * cc.code), loByte a, hiByte a] 3 true ∧ Imm16Raises (.jpCond cc a) ∧
      ∃ t, exec (.jpCond cc a) s = .next t ∧ t.regs.pc = (if s.cond cc then a else s.regs.pc + 2#16) ∧
        OnlyWrites [.pc] [] s t) ∧
    (Encodes .jp_HL [0xE9#8] 1 true ∧ ∃ t, exec .jp_HL s = .next t ∧ t.regs.pc = s.hl ∧ OnlyWrites [.pc] [] s t)

/-- `JR e8` and `JR cc,e8` (R254, R255): the base is the address after the instruction. -/
def Obligations.RelativeJumpsSetPc : Prop :=
  ∀ (cc : Cond) (e : Byte) (s : State),
    let target := BitVec.ofInt 16 (s.regs.pc.toNat + 1 + signed8 e)
    (Encodes (.jr_e8 e) [0x18#8, e] 2 true ∧
      ∃ t, exec (.jr_e8 e) s = .next t ∧ t.regs.pc = target ∧ OnlyWrites [.pc] [] s t) ∧
    (Encodes (.jrCond cc e) [byte (0x20 + 8 * cc.code), e] 2 true ∧
      ∃ t, exec (.jrCond cc e) s = .next t ∧ t.regs.pc = (if s.cond cc then target else s.regs.pc + 1#16) ∧
        OnlyWrites [.pc] [] s t)

/-- `CALL a16` and `CALL cc,a16` (R256, R257): the return address, after the operand bytes, is pushed little-endian; not
taken, SP and memory are unchanged; from SP = 0x0001 a taken call raises. -/
def Obligations.CallsPushReturnAddress : Prop :=
  ∀ (cc : Cond) (a : Word) (s : State),
    Encodes (.call_a16 a) [0xCD#8, loByte a, hiByte a] 3 true ∧ Imm16Raises (.call_a16 a) ∧
    Encodes (.callCond cc a) [byte (0xC4 + 8 * cc.code), loByte a, hiByte a] 3 true ∧ Imm16Raises (.callCond cc a) ∧
    (s.cond cc = false → ∃ t, exec (.callCond cc a) s = .next t ∧ t.regs.pc = s.regs.pc + 2#16 ∧
      OnlyWrites [.pc] [] s t) ∧
    ∀ i : Instr, i = .call_a16 a ∨ (i = .callCond cc a ∧ s.cond cc = true) →
      (s.regs.sp ≠ 0x0001#16 → ∃ t, exec i s = .next t ∧ t.regs.pc = a ∧ t.regs.sp = s.regs.sp - 2#16 ∧
        t.read8 (s.regs.sp - 2#16) = loByte (s.regs.pc + 2#16) ∧ t.read8 (s.regs.sp - 1#16) = hiByte (s.regs.pc + 2#16) ∧
        OnlyWrites [.pc, .sp] [s.regs.sp - 2#16, s.regs.sp - 1#16] s t) ∧
      (s.regs.sp = 0x0001#16 → ∃ t, exec i s = .next t ∧ Raised (.addressOutOfRange 0xFFFF) s t)

/-- RET and `RET cc` (R258, R259). -/
def Obligations.ReturnsPopPc : Prop :=
  ∀ (cc : Cond) (s : State), Encodes .ret [0xC9#8] 1 true ∧ Encodes (.retCond cc) [byte (0xC0 + 8 * cc.code)] 1 true ∧
    (s.cond cc = false → exec (.retCond cc) s = .next s) ∧
    (∀ i : Instr, i = .ret ∨ (i = .retCond cc ∧ s.cond cc = true) →
      (s.regs.sp ≠ 0xFFFF#16 → ∃ t, exec i s = .next t ∧ loByte t.regs.pc = s.read8 s.regs.sp ∧
        hiByte t.regs.pc = s.read8 (s.regs.sp + 1#16) ∧ t.regs.sp = s.regs.sp + 2#16 ∧ OnlyWrites [.pc, .sp] [] s t) ∧
      (s.regs.sp = 0xFFFF#16 → ∃ t, exec i s = .next t ∧ Raised (.addressOutOfRange 0xFFFF) s t))

/-- RETI (R260): a return that schedules EnableIE with countdown 2; where the pop raises, nothing is scheduled. -/
def Obligations.RetiPopsAndSchedules : Prop :=
  ∀ s : State, Encodes .reti [0xD9#8] 1 true ∧
    (s.regs.sp ≠ 0xFFFF#16 → ∃ t, exec .reti s = .next t ∧ loByte t.regs.pc = s.read8 s.regs.sp ∧
      hiByte t.regs.pc = s.read8 (s.regs.sp + 1#16) ∧ t.regs.sp = s.regs.sp + 2#16 ∧
      t.queue = s.queue ++ [⟨2, .enableIE⟩] ∧ OnlyWrites [.pc, .sp, .queue] [] s t) ∧
    (s.regs.sp = 0xFFFF#16 → ∃ t, exec .reti s = .next t ∧ Raised (.addressOutOfRange 0xFFFF) s t)

/-- `RST n` (R261): the pushed address is pc, the target 8 × y. -/
def Obligations.RestartCallsFixedAddress : Prop :=
  ∀ (y : Fin 8) (s : State), Encodes (.rstTo y) [byte (0xC7 + 8 * y.val)] 1 true ∧
    (s.regs.sp ≠ 0x0001#16 → ∃ t, exec (.rstTo y) s = .next t ∧ t.regs.pc = BitVec.ofNat 16 (8 * y.val) ∧
      t.regs.sp = s.regs.sp - 2#16 ∧ t.read8 (s.regs.sp - 2#16) = loByte s.regs.pc ∧
      t.read8 (s.regs.sp - 1#16) = hiByte s.regs.pc ∧
      OnlyWrites [.pc, .sp] [s.regs.sp - 2#16, s.regs.sp - 1#16] s t) ∧
    (s.regs.sp = 0x0001#16 → ∃ t, exec (.rstTo y) s = .next t ∧ Raised (.addressOutOfRange 0xFFFF) s t)

/-! ## System instructions and the deferred queue -/

/-- NOP changes nothing; DI and EI schedule their action with countdown 2 and change nothing else; STOP enters Stopped
(R280, R281, R282, R284). -/
def Obligations.SystemInstructionEffects : Prop :=
  ∀ (n : Byte) (s : State),
    (Encodes .nop [0x00#8] 1 false ∧ exec .nop s = .next s) ∧
    (Encodes .di [0xF3#8] 1 false ∧ ∃ t, exec .di s = .next t ∧ t.queue = s.queue ++ [⟨2, .disableIE⟩] ∧
      OnlyWrites [.queue] [] s t) ∧
    (Encodes .ei [0xFB#8] 1 false ∧ ∃ t, exec .ei s = .next t ∧ t.queue = s.queue ++ [⟨2, .enableIE⟩] ∧
      OnlyWrites [.queue] [] s t) ∧
    (Encodes (.stop n) [0x10#8, n] 2 false ∧ ∃ t, exec (.stop n) s = .next t ∧ t.run = .stopped ∧
      OnlyWrites [.run] [] s t)

/-- A STOP step moves pc past both bytes, retires, and leaves Stopped, where no step is enabled until `wake()`; `wake()` is
enabled exactly in Stopped and changes `run` alone (R284, R323). The fault `stoppedUntilWake` is how the model says that no step
is enabled (R42): log entry 6 (DEDUCED). The first clause takes an empty queue; STOP with an action pending is in
`SystemInstructionEffects`, `TickFiresAtZero`, `DeferredWriteLatency`, `StepRunsDecodedInstruction` and
`RetireFollowsTheLoop`. -/
def Obligations.StopWaitsForWake : Prop :=
  (∀ (s : State) (n : Byte), s.run = .running → s.queue = [] → fetch s = .stop n →
    ∃ t, step s = .next t ∧ t.run = .stopped ∧ t.regs.pc = s.regs.pc + 2#16 ∧ t.retired = s.retired + 1 ∧
      (∀ a, t.read8 a = s.read8 a) ∧ step t = .fault .stoppedUntilWake ∧ ∃ u, t.wake = some u) ∧
  ∀ s : State, (s.run = .stopped → ∃ u, s.wake = some u ∧ u.run = .running ∧ OnlyWrites [.run] [] s u) ∧
    (s.run ≠ .stopped → s.wake = none)

/-- `schedule` adds an entry, and raises for a countdown that is not positive (R40, R303). -/
def Obligations.ScheduleValidatesCountdown : Prop :=
  ∀ (n : Int) (act : DeferredEffect) (s : State),
    (n ≤ 0 → schedule n act s = .error (.invalidDeferredAction n)) ∧
    (0 < n → ∃ t, schedule n act s = .ok t ∧ t.queue = s.queue ++ [⟨n.toNat, act⟩] ∧ OnlyWrites [.queue] [] s t)

/-- `tick()` lowers every countdown; an entry that reaches 0 writes IE and is removed in the same tick (R41). The entries'
countdowns are positive, as R40 has them. In the last clause an earlier entry may be at 1 too: that the last scheduled one is
the last to fire is the firing order of log entry 11 (DESIGN CHOICE; D23). R41 says that no run has two such entries. -/
def Obligations.TickFiresAtZero : Prop :=
  ∀ s : State, (∀ e ∈ s.queue, 0 < e.countdown) →
    (tick s).queue = (s.queue.filter fun e => e.countdown != 1).map (fun e => ⟨e.countdown - 1, e.effect⟩) ∧
    OnlyWrites [.queue] [addrIE] s (tick s) ∧
    ((∀ e ∈ s.queue, e.countdown ≠ 1) → OnlyWrites [.queue] [] s (tick s)) ∧
    (∀ before after effect, s.queue = before ++ ⟨1, effect⟩ :: after → (∀ e ∈ after, e.countdown ≠ 1) →
      (tick s).read8 addrIE = match effect with
        | .disableIE => 0x00#8
        | .enableIE => Config.eiIeValue)

/-- The latency of DI, EI and RETI (R342): when the scheduler has retired, and so through the effect of the next
instruction, IE is what it was, or the value of an action that was pending before; when the next instruction has retired, IE is
the scheduled action's value, whatever that instruction stored; where it raises a fatal error the action does not fire. -/
def Obligations.DeferredWriteLatency : Prop :=
  ∀ (s t u : State) (act : DeferredEffect), s.run = .running → s.Inv → step s = .next t → step t = .next u →
    ((fetch s = .di ∧ act = .disableIE) ∨ (fetch s = .ei ∧ act = .enableIE) ∨ (fetch s = .reti ∧ act = .enableIE)) →
    let value (e : DeferredEffect) : Byte := match e with
      | .disableIE => 0x00#8
      | .enableIE => Config.eiIeValue
    t.queue = [⟨1, act⟩] ∧
    (s.queue = [] → t.read8 addrIE = s.read8 addrIE) ∧
    (∀ pending, s.queue = [⟨1, pending⟩] → t.read8 addrIE = value pending) ∧
    (u.run.isTerminated = false → u.read8 addrIE = value act) ∧
    (u.run.isTerminated = true → u.queue = [⟨1, act⟩])

/-- The queue never holds more than two entries, at any point of a step from a running state that meets the invariant
(R10). -/
def Obligations.QueueHoldsAtMostTwo : Prop :=
  ∀ (i : Instr) (s t : State), s.run = .running → s.Inv → exec i s = .next t → t.queue.length ≤ 2 ∧ (retire i t).queue.length ≤ 1

/-! ## The step -/

/-- A step runs the decoded instruction: pc moves past the key, the effect runs, and the loop retires it. Where a 16-bit
immediate starts at 0xFFFF the operand read raises AddressOutOfRange(0xFFFF) instead (R91, R95, R100, R301). -/
def Obligations.StepRunsDecodedInstruction : Prop :=
  ∀ (s : State) (i : Instr) (rest : List Byte), s.run = .running →
    decode [s.read8 s.regs.pc, s.read8 (s.regs.pc + 1#16), s.read8 (s.regs.pc + 2#16)] = .ok (i, rest) →
    (¬(i.operands.length = 2 ∧ s.regs.pc = 0xFFFE#16) →
      step s = retireResult i (exec i (s.advancePc i.keyLength))) ∧
    (i.operands.length = 2 ∧ s.regs.pc = 0xFFFE#16 →
      ∃ t, step s = .next t ∧ Raised (.addressOutOfRange 0xFFFF) s t)

/-- What retiring does (R100 steps 6 to 8): the tick, the final advance of pc where the instruction does not own it, and the
count; after a fatal error it does nothing (R310). -/
def Obligations.RetireFollowsTheLoop : Prop :=
  ∀ (i : Instr) (t : State),
    (t.run.isTerminated = true → retire i t = t) ∧
    (t.run.isTerminated = false →
      (retire i t).queue = (tick t).queue ∧ (∀ a, (retire i t).read8 a = (tick t).read8 a) ∧
      (retire i t).regs.pc = (if i.ownsPc then t.regs.pc else t.regs.pc + BitVec.ofNat 16 (i.byteLength - 1)) ∧
      (∀ r, (retire i t).reg8 r = t.reg8 r) ∧ (retire i t).regs.f = t.regs.f ∧ (retire i t).regs.sp = t.regs.sp ∧
      (retire i t).run = t.run ∧ (retire i t).retired = t.retired + 1)

/-- An undefined key raises UndefinedOpcode with the key, and there is no retry (R101, R102, R302). The fault of the step after it
is how the model says that no further step exists (R42): log entry 6 (DEDUCED). -/
def Obligations.UndefinedOpcodeIsFatal : Prop :=
  ∀ s : State, s.run = .running →
    (undefinedPlainKeys.contains (s.read8 s.regs.pc) = true →
      ∃ t, step s = .next t ∧ Raised (.undefinedOpcode (.plain (s.read8 s.regs.pc))) s t ∧
        step t = .fault (.terminated (.undefinedOpcode (.plain (s.read8 s.regs.pc))))) ∧
    (s.read8 s.regs.pc = 0xED#8 →
      let key := OpcodeKey.extended 0xED#8 (s.read8 (s.regs.pc + 1#16))
      key.number = 0xED00 + (s.read8 (s.regs.pc + 1#16)).toNat ∧
      ∃ t, step s = .next t ∧ Raised (.undefinedOpcode key) s t ∧ step t = .fault (.terminated (.undefinedOpcode key)))

/-- Outside Running no step is enabled (R42). -/
def Obligations.NoStepUnlessRunning : Prop :=
  ∀ s : State, (s.run = .running ↔ ∃ t, step s = .next t) ∧
    (s.run = .stopped → step s = .fault .stoppedUntilWake) ∧
    ∀ e, s.run = .terminated e → step s = .fault (.terminated e)

/-- The errors a step can raise (R301, R303, R305, R308): a word access at 0xFFFF, an undefined key, or an unimplemented
entry; never the other two kinds. -/
def Obligations.StepErrorsAreTheThreeKinds : Prop :=
  ∀ (s t : State) (e : FatalError), step s = .next t → t.run = .terminated e →
    e = .addressOutOfRange 0xFFFF ∨ (∃ key, e = .undefinedOpcode key) ∨ ∃ key, e = .unimplementedOpcode key

/-- Only STOP leaves Running for Stopped (R42, R284). -/
def Obligations.OnlyStopStops : Prop :=
  ∀ s t : State, step s = .next t → (t.run = .stopped ↔ ∃ n, fetch s = .stop n)

/-- Sequential execution (R25, R26, R98): an instruction that does not own pc and raises nothing leaves pc at the address
after its last byte, modulo 65536. -/
def Obligations.PcAdvancesByLength : Prop :=
  ∀ s t : State, step s = .next t → t.run.isTerminated = false → (fetch s).ownsPc = false →
    t.regs.pc = s.regs.pc + BitVec.ofNat 16 (fetch s).length

/-- `retired` counts the instructions that completed, and paces the render hook (R43, R100 step 8, R321, R345): the step calls
`render()` exactly where it raised nothing and `RENDER_PERIOD_K` divides the new count, and the hook reads the memory after the
retirement (R78); where no step is enabled there is no call. How the model gives the call is log entry 4 (DESIGN CHOICE). -/
def Obligations.RetiredCountsCompletedSteps : Prop :=
  0 < Config.renderPeriod ∧
  (∀ s t : State, step s = .next t →
    t.retired = (if t.run.isTerminated then s.retired else s.retired + 1) ∧
    s.renderCall = if t.run.isTerminated = false ∧ Config.renderPeriod ∣ t.retired then some t.mem else none) ∧
  ∀ s : State, s.run ≠ .running → s.renderCall = none

/-- Every step keeps the invariant: the canonical form of memory, bits 3..0 of F at 0, and the settled queue (R10, R23,
R41). The form is the choice of log entry 10 (DESIGN CHOICE). Of a state that a fatal error leaves, R310 lets no claim read F or
memory: that the two survive there is the model's choice of log entry 1 (DESIGN CHOICE). -/
def Obligations.StepKeepsInvariant : Prop :=
  ∀ s t : State, s.Inv → step s = .next t → t.Inv

/-- The reset state: R46, R47, R330, and it meets the invariant, whose clause on memory's form is the choice of log entry 10
(DESIGN CHOICE). `freeDraws` is the model's own and nothing is said of it. -/
def Obligations.ResetState : Prop :=
  State.reset.Inv ∧ State.reset.regs.a = 0x01#8 ∧ State.reset.regs.f = 0xB0#8 ∧ State.reset.regs.b = 0x00#8 ∧
  State.reset.regs.c = 0x0D#8 ∧ State.reset.regs.d = 0x00#8 ∧ State.reset.regs.e = 0xD8#8 ∧ State.reset.regs.h = 0x01#8 ∧
  State.reset.regs.l = 0x4D#8 ∧ State.reset.regs.sp = 0xFFFE#16 ∧ State.reset.regs.pc = 0x0100#16 ∧
  (∀ a, State.reset.read8 a = 0x00#8) ∧ State.reset.queue = [] ∧ State.reset.run = .running ∧ State.reset.retired = 0

/-- `load(bytes)` (R331): it writes memory alone; an image that fits is there afterwards, the later of two bytes for one cell
winning, and cells beyond it stay; a longer image is reported as AddressOutOfRange(0x10000). -/
def Obligations.LoadWritesImage : Prop :=
  ∀ (s : State) (bytes : List Byte),
    (s.load bytes).1.regs = s.regs ∧ (s.load bytes).1.queue = s.queue ∧ (s.load bytes).1.run = s.run ∧
    (s.load bytes).1.retired = s.retired ∧
    (bytes.length ≤ 65536 → (s.load bytes).2 = none) ∧
    (65536 < bytes.length → (s.load bytes).2 = some (.addressOutOfRange 0x10000)) ∧
    (∀ k : Nat, k < bytes.length → k ≤ 0xFFFF →
      (∀ j, k < j → j < bytes.length → j ≤ 0xFFFF → canon j ≠ canon k) →
      some ((s.load bytes).1.read8 (BitVec.ofNat 16 k)) = bytes[k]?) ∧
    (∀ a : Word, (∀ k, k < bytes.length → k ≤ 0xFFFF → canon k ≠ canon a.toNat) →
      (s.load bytes).1.read8 a = s.read8 a)
end

