-- ==== Sys2Proof/Laws/Memory.lean ====
section
/-! SUPPORT. The laws of memory: a read after a write, the canonical form, and the bus at the addresses instructions
compute. -/

namespace Sys2Proof.Laws

open Sys2Proof Sys2Proof.Machine

/-! ## Bytes and words -/

@[simp] theorem wordOf_toNat (hi lo : Byte) : (wordOf hi lo).toNat = hi.toNat * 256 + lo.toNat := by
  have h1 := hi.isLt
  have h2 := lo.isLt
  simp only [wordOf, BitVec.toNat_ofNat]
  omega

@[simp] theorem hiByte_toNat (v : Word) : (hiByte v).toNat = v.toNat / 256 := by
  have h := v.isLt
  simp only [hiByte, BitVec.toNat_ofNat]
  omega

@[simp] theorem loByte_toNat (v : Word) : (loByte v).toNat = v.toNat % 256 := by
  simp only [loByte, BitVec.toNat_ofNat]
  omega

@[simp] theorem wordOf_hiByte_loByte (v : Word) : wordOf (hiByte v) (loByte v) = v := by
  apply BitVec.eq_of_toNat_eq
  simp only [wordOf_toNat, hiByte_toNat, loByte_toNat]
  omega

@[simp] theorem hiByte_wordOf (hi lo : Byte) : hiByte (wordOf hi lo) = hi := by
  have h := lo.isLt
  apply BitVec.eq_of_toNat_eq
  simp only [wordOf_toNat, hiByte_toNat]
  omega

@[simp] theorem loByte_wordOf (hi lo : Byte) : loByte (wordOf hi lo) = lo := by
  have h := lo.isLt
  apply BitVec.eq_of_toNat_eq
  simp only [wordOf_toNat, loByte_toNat]
  omega

/-! ## Cells -/

theorem cell_without (m : Memory) (a b : Nat) :
    (m.without a).cell b = if a = b then Memory.unlisted else m.cell b := by
  induction m with
  | nil => simp [Memory.without, Memory.cell]
  | cons e rest ih =>
    obtain ⟨k, w⟩ := e
    simp only [Memory.without] at ih ⊢
    by_cases hk : k = a
    · subst hk
      simp only [List.filter_cons, bne_self_eq_false, Bool.false_eq_true, if_false, ih, Memory.cell]
      split <;> rfl
    · simp only [List.filter_cons, bne_iff_ne, ne_eq, hk, not_false_eq_true, if_true, Memory.cell, ih]
      split
      · rename_i h
        rw [if_neg (by omega)]
      · rfl

theorem cell_insertCell (m : Memory) (a b : Nat) (v : Byte) (h : ∀ c ∈ m, c.1 ≠ a) :
    (m.insertCell a v).cell b = if a = b then v else m.cell b := by
  induction m with
  | nil => simp [Memory.insertCell, Memory.cell]
  | cons e rest ih =>
    obtain ⟨k, w⟩ := e
    simp only [Memory.insertCell]
    split
    · simp only [Memory.cell]
    · simp only [Memory.cell, ih fun c hc => h c (List.mem_cons_of_mem _ hc)]
      have hka : k ≠ a := h (k, w) List.mem_cons_self
      split
      · rw [if_neg (by omega)]
      · rfl

/-- A cell written reads back and no other cell changes, whatever the form of the memory. -/
@[simp] theorem cell_setCell (m : Memory) (a b : Nat) (v : Byte) :
    (m.setCell a v).cell b = if a = b then v else m.cell b := by
  unfold Memory.setCell
  split
  · rename_i h
    rw [cell_without, h]
  · rw [cell_insertCell]
    · rw [cell_without]
      split <;> rfl
    · intro c hc
      simpa using (List.mem_filter.mp hc).2

/-! ## The canonical form -/

theorem wfFrom_mono {m : Memory} {lo lo' : Nat} (hle : lo' ≤ lo) (h : Memory.wfFrom lo m = true) :
    Memory.wfFrom lo' m = true := by
  cases m with
  | nil => rfl
  | cons e rest =>
    simp only [Memory.wfFrom, Bool.and_eq_true, decide_eq_true_eq] at h ⊢
    exact ⟨⟨⟨by omega, h.1.1.2⟩, h.1.2⟩, h.2⟩

/-- Below every address of a canonical memory, cells are unlisted. -/
theorem cell_of_wfFrom_lt {m : Memory} {lo b : Nat} (h : Memory.wfFrom lo m = true) (hb : b < lo) :
    m.cell b = Memory.unlisted := by
  induction m generalizing lo with
  | nil => rfl
  | cons e rest ih =>
    simp only [Memory.wfFrom, Bool.and_eq_true, decide_eq_true_eq] at h
    simp only [Memory.cell]
    rw [if_neg (by omega)]
    exact ih h.2 (by omega)

theorem wfFrom_without {m : Memory} {lo : Nat} (a : Nat) (h : Memory.wfFrom lo m = true) :
    Memory.wfFrom lo (m.without a) = true := by
  induction m generalizing lo with
  | nil => rfl
  | cons e rest ih =>
    have h' := h
    simp only [Memory.wfFrom, Bool.and_eq_true, decide_eq_true_eq] at h'
    have hr := ih h'.2
    simp only [Memory.without, List.filter_cons] at hr ⊢
    split
    · simp only [Memory.wfFrom, Bool.and_eq_true, decide_eq_true_eq]
      exact ⟨h'.1, hr⟩
    · exact wfFrom_mono (by omega) hr

theorem wfFrom_insertCell {m : Memory} {lo a : Nat} {v : Byte} (h : Memory.wfFrom lo m = true) (hlo : lo ≤ a)
    (ha : isCell a = true) (hv : v ≠ Memory.unlisted) (hn : ∀ c ∈ m, c.1 ≠ a) :
    Memory.wfFrom lo (m.insertCell a v) = true := by
  have hv' : (v != Memory.unlisted) = true := by simpa using hv
  induction m generalizing lo with
  | nil => simp only [Memory.insertCell, Memory.wfFrom, ha, hv', hlo, decide_true, Bool.and_self]
  | cons e rest ih =>
    obtain ⟨k, w⟩ := e
    have h' := h
    simp only [Memory.wfFrom, Bool.and_eq_true, decide_eq_true_eq] at h'
    have hk : k ≠ a := hn (k, w) List.mem_cons_self
    simp only [Memory.insertCell]
    split
    · simp only [Memory.wfFrom, Bool.and_eq_true, decide_eq_true_eq]
      exact ⟨⟨⟨hlo, ha⟩, hv'⟩, ⟨⟨by omega, h'.1.1.2⟩, h'.1.2⟩, h'.2⟩
    · simp only [Memory.wfFrom, Bool.and_eq_true, decide_eq_true_eq]
      exact ⟨h'.1, ih h'.2 (by omega) fun c hc => hn c (List.mem_cons_of_mem _ hc)⟩

/-- A write to a cell keeps the canonical form. -/
theorem wf_setCell {m : Memory} {a : Nat} {v : Byte} (h : m.wf = true) (ha : isCell a = true) :
    (m.setCell a v).wf = true := by
  unfold Memory.setCell
  split
  · exact wfFrom_without a h
  · rename_i hv
    refine wfFrom_insertCell (wfFrom_without a h) (Nat.zero_le _) ha hv ?_
    intro c hc
    simpa using (List.mem_filter.mp hc).2

/-! ## Echo canonicalization -/

theorem canon_le {a : Nat} (h : a ≤ 0xFFFF) : canon a ≤ 0xFFFF := by
  unfold canon
  split <;> omega

theorem canon_canon (a : Nat) : canon (canon a) = canon a := by
  simp only [canon]
  split_ifs <;> omega

/-- Every address in range canonicalizes to a cell of its own. -/
theorem isCell_canon {a : Nat} (h : a ≤ 0xFFFF) : isCell (canon a) = true := by
  simp [isCell, canon_canon, canon_le h]

theorem word_le (a : Word) : a.toNat ≤ 0xFFFF := by
  have := a.isLt
  omega

/-- Addresses next to each other are never the same cell. -/
theorem canon_ne_succ {a b : Nat} (h : b = a + 1) : canon a ≠ canon b := by
  unfold canon
  split <;> split <;> omega

/-! ## The bus at an address that an instruction computed -/

theorem readByte_of_word (m : Memory) (a : Word) : m.readByte a.toNat = .ok (m.peek a) := by
  have := a.isLt
  simp only [Memory.readByte, Memory.peek, Int.toNat_natCast]
  rw [if_pos (by omega)]

theorem writeByte_of_word (m : Memory) (a : Word) (v : Byte) : m.writeByte a.toNat v.toNat = .ok (m.poke a v) := by
  have := a.isLt
  simp only [Memory.writeByte, Memory.poke, Int.toNat_natCast]
  rw [if_pos (by omega)]
  simp

theorem succ_toNat {a : Word} (h : a ≠ 0xFFFF#16) : (a + 1#16).toNat = a.toNat + 1 := by
  have := a.isLt
  have : a.toNat ≠ 0xFFFF := fun e => h (BitVec.eq_of_toNat_eq e)
  simp only [BitVec.toNat_add, BitVec.toNat_ofNat]
  omega

theorem toNat_ne_top {a : Word} (h : a ≠ 0xFFFF#16) : a.toNat ≤ 65534 := by
  have := a.isLt
  have : a.toNat ≠ 0xFFFF := fun e => h (BitVec.eq_of_toNat_eq e)
  omega

theorem readWord_of_word (m : Memory) (a : Word) :
    m.readWord a.toNat =
      if a = 0xFFFF#16 then .error (.addressOutOfRange 0xFFFF) else .ok (wordOf (m.peek (a + 1#16)) (m.peek a)) := by
  by_cases h : a = 0xFFFF#16
  · subst h
    rfl
  · have := toNat_ne_top h
    simp only [Memory.readWord, Memory.peek, Int.toNat_natCast, succ_toNat h, if_neg h]
    rw [if_pos (by omega)]

theorem writeWord_of_word (m : Memory) (a v : Word) :
    m.writeWord a.toNat v =
      if a = 0xFFFF#16 then .error (.addressOutOfRange 0xFFFF)
      else .ok ((m.poke a (loByte v)).poke (a + 1#16) (hiByte v)) := by
  by_cases h : a = 0xFFFF#16
  · subst h
    rfl
  · have := toNat_ne_top h
    simp only [Memory.writeWord, Memory.poke, Int.toNat_natCast, succ_toNat h, if_neg h]
    rw [if_pos (by omega)]

/-- A byte written reads back at every alias of its address, and every other byte stays. -/
@[simp] theorem peek_poke (m : Memory) (a b : Word) (v : Byte) :
    (m.poke a v).peek b = if canon a.toNat = canon b.toNat then v else m.peek b := by
  simp only [Memory.peek, Memory.poke, cell_setCell]

theorem wf_poke {m : Memory} (a : Word) (v : Byte) (h : m.wf = true) : (m.poke a v).wf = true :=
  wf_setCell h (isCell_canon (word_le a))

theorem wf_writeByte {m m' : Memory} {a v : Int} (h : m.wf = true) (hw : m.writeByte a v = .ok m') : m'.wf = true := by
  unfold Memory.writeByte at hw
  split at hw
  · cases hw
    exact wf_setCell h (isCell_canon (by omega))
  · cases hw

theorem wf_writeWord {m m' : Memory} {a : Int} {v : Word} (h : m.wf = true) (hw : m.writeWord a v = .ok m') :
    m'.wf = true := by
  unfold Memory.writeWord at hw
  split at hw
  · cases hw
    exact wf_setCell (wf_setCell h (isCell_canon (by omega))) (isCell_canon (by omega))
  · cases hw

theorem wf_ofWrites (cells : List Host.Cell) : (Memory.ofWrites cells).wf = true := by
  suffices h : ∀ m : Memory, m.wf = true →
      (cells.foldl (fun m c => m.poke (BitVec.ofNat 16 c.1) c.2) m).wf = true from h [] rfl
  induction cells with
  | nil => exact fun m h => h
  | cons c rest ih => exact fun m h => ih _ (wf_poke _ _ h)

end Sys2Proof.Laws
end

