-- ==== Sys2Proof/Laws/Decode.lean ====
section
/-! SUPPORT. What decoding and encoding can do, said once: the front of a list of bytes, the prefixed space and the undefined
keys. -/

namespace Sys2Proof.Laws

open Sys2Proof

/-- Decoding takes the instruction that the first three bytes begin with, and leaves the bytes after its length. -/
theorem decode_cons {b0 : Byte} {rest after : List Byte} {i : Instr}
    (hi : decodeBytes b0 (rest.getD 0 0) (rest.getD 1 0) = i) (ha : dropBytes i.length (b0 :: rest) = some after) :
    decode (b0 :: rest) = .ok (i, after) := by
  simp only [decode, hi, ha]

/-- An instruction of the prefixed space is its two key bytes (R103). -/
theorem decode_cb {b1 : Byte} {i : Instr} (rest : List Byte) (hi : decodeCB b1 = i) (hl : i.length = 2) :
    decode (0xCB#8 :: b1 :: rest) = .ok (i, rest) :=
  decode_cons hi (by rw [hl]; rfl)

/-- The reserved escape (R102). -/
theorem decode_ed (b1 : Byte) (rest : List Byte) : decode (0xED#8 :: b1 :: rest) = .ok (.escape_ED b1, rest) := rfl

/-- The operand bytes of a 16-bit immediate give it back (R95). -/
theorem immediate_of_bytes (n : Word) : wordOf (hiByte n) (loByte n) = n := wordOf_hiByte_loByte n

/-- The ten undefined keys, one by one (R101). -/
theorem undefinedPlainKeys_cases {key : Byte} (h : undefinedPlainKeys.contains key = true) :
    key = 0xD3#8 ∨ key = 0xDB#8 ∨ key = 0xDD#8 ∨ key = 0xE3#8 ∨ key = 0xE4#8 ∨ key = 0xEB#8 ∨ key = 0xEC#8 ∨
      key = 0xF4#8 ∨ key = 0xFC#8 ∨ key = 0xFD#8 := by
  simpa [undefinedPlainKeys] using h

/-- A quantifier over bytes is a quantifier over 256 numbers: a way to split a claim about a key into its cases. -/
theorem forall_byte {P : Byte → Prop} (h : ∀ n : Fin 256, P (BitVec.ofNat 8 n.val)) : ∀ b, P b := by
  intro b
  simpa using h ⟨b.toNat, b.isLt⟩

end Sys2Proof.Laws
end

