-- ==== Sys2Proof/Laws/State.lean ====
section
/-! SUPPORT. What each update of the state leaves in each part of it: one lemma per part per update. The register parts are
read through `State.reg8`. -/

namespace Sys2Proof.Machine

@[simp] theorem State.setReg8_reg8 (s : State) (x : Reg8) (v : Byte) (r : Reg8) :
    (s.setReg8 x v).reg8 r = if r = x then v else s.reg8 r := by cases x <;> cases r <;> rfl

@[simp] theorem State.setReg8_f (s : State) (x : Reg8) (v : Byte) :
    (s.setReg8 x v).regs.f = s.regs.f := by cases x <;> rfl

@[simp] theorem State.setReg8_sp (s : State) (x : Reg8) (v : Byte) :
    (s.setReg8 x v).regs.sp = s.regs.sp := by cases x <;> rfl

@[simp] theorem State.setReg8_pc (s : State) (x : Reg8) (v : Byte) :
    (s.setReg8 x v).regs.pc = s.regs.pc := by cases x <;> rfl

@[simp] theorem State.setReg8_mem (s : State) (x : Reg8) (v : Byte) :
    (s.setReg8 x v).mem = s.mem := by cases x <;> rfl

@[simp] theorem State.setReg8_queue (s : State) (x : Reg8) (v : Byte) :
    (s.setReg8 x v).queue = s.queue := by cases x <;> rfl

@[simp] theorem State.setReg8_run (s : State) (x : Reg8) (v : Byte) :
    (s.setReg8 x v).run = s.run := by cases x <;> rfl

@[simp] theorem State.setReg8_retired (s : State) (x : Reg8) (v : Byte) :
    (s.setReg8 x v).retired = s.retired := by cases x <;> rfl

@[simp] theorem State.setReg8_freeDraws (s : State) (x : Reg8) (v : Byte) :
    (s.setReg8 x v).freeDraws = s.freeDraws := by cases x <;> rfl

@[simp] theorem State.setF_reg8 (s : State) (v : Byte) (r : Reg8) :
    (s.setF v).reg8 r = s.reg8 r := by cases r <;> rfl

@[simp] theorem State.setF_f (s : State) (v : Byte) :
    (s.setF v).regs.f = v &&& 0xF0#8 := rfl

@[simp] theorem State.setF_sp (s : State) (v : Byte) :
    (s.setF v).regs.sp = s.regs.sp := rfl

@[simp] theorem State.setF_pc (s : State) (v : Byte) :
    (s.setF v).regs.pc = s.regs.pc := rfl

@[simp] theorem State.setF_mem (s : State) (v : Byte) :
    (s.setF v).mem = s.mem := rfl

@[simp] theorem State.setF_queue (s : State) (v : Byte) :
    (s.setF v).queue = s.queue := rfl

@[simp] theorem State.setF_run (s : State) (v : Byte) :
    (s.setF v).run = s.run := rfl

@[simp] theorem State.setF_retired (s : State) (v : Byte) :
    (s.setF v).retired = s.retired := rfl

@[simp] theorem State.setF_freeDraws (s : State) (v : Byte) :
    (s.setF v).freeDraws = s.freeDraws := rfl

@[simp] theorem State.setSp_reg8 (s : State) (v : Word) (r : Reg8) :
    (s.setSp v).reg8 r = s.reg8 r := by cases r <;> rfl

@[simp] theorem State.setSp_f (s : State) (v : Word) :
    (s.setSp v).regs.f = s.regs.f := rfl

@[simp] theorem State.setSp_sp (s : State) (v : Word) :
    (s.setSp v).regs.sp = v := rfl

@[simp] theorem State.setSp_pc (s : State) (v : Word) :
    (s.setSp v).regs.pc = s.regs.pc := rfl

@[simp] theorem State.setSp_mem (s : State) (v : Word) :
    (s.setSp v).mem = s.mem := rfl

@[simp] theorem State.setSp_queue (s : State) (v : Word) :
    (s.setSp v).queue = s.queue := rfl

@[simp] theorem State.setSp_run (s : State) (v : Word) :
    (s.setSp v).run = s.run := rfl

@[simp] theorem State.setSp_retired (s : State) (v : Word) :
    (s.setSp v).retired = s.retired := rfl

@[simp] theorem State.setSp_freeDraws (s : State) (v : Word) :
    (s.setSp v).freeDraws = s.freeDraws := rfl

@[simp] theorem State.setPc_reg8 (s : State) (v : Word) (r : Reg8) :
    (s.setPc v).reg8 r = s.reg8 r := by cases r <;> rfl

@[simp] theorem State.setPc_f (s : State) (v : Word) :
    (s.setPc v).regs.f = s.regs.f := rfl

@[simp] theorem State.setPc_sp (s : State) (v : Word) :
    (s.setPc v).regs.sp = s.regs.sp := rfl

@[simp] theorem State.setPc_pc (s : State) (v : Word) :
    (s.setPc v).regs.pc = v := rfl

@[simp] theorem State.setPc_mem (s : State) (v : Word) :
    (s.setPc v).mem = s.mem := rfl

@[simp] theorem State.setPc_queue (s : State) (v : Word) :
    (s.setPc v).queue = s.queue := rfl

@[simp] theorem State.setPc_run (s : State) (v : Word) :
    (s.setPc v).run = s.run := rfl

@[simp] theorem State.setPc_retired (s : State) (v : Word) :
    (s.setPc v).retired = s.retired := rfl

@[simp] theorem State.setPc_freeDraws (s : State) (v : Word) :
    (s.setPc v).freeDraws = s.freeDraws := rfl

@[simp] theorem State.setMem_reg8 (s : State) (m : Memory) (r : Reg8) :
    (s.setMem m).reg8 r = s.reg8 r := by cases r <;> rfl

@[simp] theorem State.setMem_f (s : State) (m : Memory) :
    (s.setMem m).regs.f = s.regs.f := rfl

@[simp] theorem State.setMem_sp (s : State) (m : Memory) :
    (s.setMem m).regs.sp = s.regs.sp := rfl

@[simp] theorem State.setMem_pc (s : State) (m : Memory) :
    (s.setMem m).regs.pc = s.regs.pc := rfl

@[simp] theorem State.setMem_mem (s : State) (m : Memory) :
    (s.setMem m).mem = m := rfl

@[simp] theorem State.setMem_queue (s : State) (m : Memory) :
    (s.setMem m).queue = s.queue := rfl

@[simp] theorem State.setMem_run (s : State) (m : Memory) :
    (s.setMem m).run = s.run := rfl

@[simp] theorem State.setMem_retired (s : State) (m : Memory) :
    (s.setMem m).retired = s.retired := rfl

@[simp] theorem State.setMem_freeDraws (s : State) (m : Memory) :
    (s.setMem m).freeDraws = s.freeDraws := rfl

@[simp] theorem State.setQueue_reg8 (s : State) (q : List Deferred) (r : Reg8) :
    (s.setQueue q).reg8 r = s.reg8 r := by cases r <;> rfl

@[simp] theorem State.setQueue_f (s : State) (q : List Deferred) :
    (s.setQueue q).regs.f = s.regs.f := rfl

@[simp] theorem State.setQueue_sp (s : State) (q : List Deferred) :
    (s.setQueue q).regs.sp = s.regs.sp := rfl

@[simp] theorem State.setQueue_pc (s : State) (q : List Deferred) :
    (s.setQueue q).regs.pc = s.regs.pc := rfl

@[simp] theorem State.setQueue_mem (s : State) (q : List Deferred) :
    (s.setQueue q).mem = s.mem := rfl

@[simp] theorem State.setQueue_queue (s : State) (q : List Deferred) :
    (s.setQueue q).queue = q := rfl

@[simp] theorem State.setQueue_run (s : State) (q : List Deferred) :
    (s.setQueue q).run = s.run := rfl

@[simp] theorem State.setQueue_retired (s : State) (q : List Deferred) :
    (s.setQueue q).retired = s.retired := rfl

@[simp] theorem State.setQueue_freeDraws (s : State) (q : List Deferred) :
    (s.setQueue q).freeDraws = s.freeDraws := rfl

@[simp] theorem State.setRun_reg8 (s : State) (x : RunState) (r : Reg8) :
    (s.setRun x).reg8 r = s.reg8 r := by cases r <;> rfl

@[simp] theorem State.setRun_f (s : State) (x : RunState) :
    (s.setRun x).regs.f = s.regs.f := rfl

@[simp] theorem State.setRun_sp (s : State) (x : RunState) :
    (s.setRun x).regs.sp = s.regs.sp := rfl

@[simp] theorem State.setRun_pc (s : State) (x : RunState) :
    (s.setRun x).regs.pc = s.regs.pc := rfl

@[simp] theorem State.setRun_mem (s : State) (x : RunState) :
    (s.setRun x).mem = s.mem := rfl

@[simp] theorem State.setRun_queue (s : State) (x : RunState) :
    (s.setRun x).queue = s.queue := rfl

@[simp] theorem State.setRun_run (s : State) (x : RunState) :
    (s.setRun x).run = x := rfl

@[simp] theorem State.setRun_retired (s : State) (x : RunState) :
    (s.setRun x).retired = s.retired := rfl

@[simp] theorem State.setRun_freeDraws (s : State) (x : RunState) :
    (s.setRun x).freeDraws = s.freeDraws := rfl

@[simp] theorem State.setRetired_reg8 (s : State) (n : Nat) (r : Reg8) :
    (s.setRetired n).reg8 r = s.reg8 r := by cases r <;> rfl

@[simp] theorem State.setRetired_f (s : State) (n : Nat) :
    (s.setRetired n).regs.f = s.regs.f := rfl

@[simp] theorem State.setRetired_sp (s : State) (n : Nat) :
    (s.setRetired n).regs.sp = s.regs.sp := rfl

@[simp] theorem State.setRetired_pc (s : State) (n : Nat) :
    (s.setRetired n).regs.pc = s.regs.pc := rfl

@[simp] theorem State.setRetired_mem (s : State) (n : Nat) :
    (s.setRetired n).mem = s.mem := rfl

@[simp] theorem State.setRetired_queue (s : State) (n : Nat) :
    (s.setRetired n).queue = s.queue := rfl

@[simp] theorem State.setRetired_run (s : State) (n : Nat) :
    (s.setRetired n).run = s.run := rfl

@[simp] theorem State.setRetired_retired (s : State) (n : Nat) :
    (s.setRetired n).retired = n := rfl

@[simp] theorem State.setRetired_freeDraws (s : State) (n : Nat) :
    (s.setRetired n).freeDraws = s.freeDraws := rfl

@[simp] theorem State.advancePc_reg8 (s : State) (n : Nat) (r : Reg8) :
    (s.advancePc n).reg8 r = s.reg8 r := by cases r <;> rfl

@[simp] theorem State.advancePc_f (s : State) (n : Nat) :
    (s.advancePc n).regs.f = s.regs.f := rfl

@[simp] theorem State.advancePc_sp (s : State) (n : Nat) :
    (s.advancePc n).regs.sp = s.regs.sp := rfl

@[simp] theorem State.advancePc_pc (s : State) (n : Nat) :
    (s.advancePc n).regs.pc = s.regs.pc + BitVec.ofNat 16 n := rfl

@[simp] theorem State.advancePc_mem (s : State) (n : Nat) :
    (s.advancePc n).mem = s.mem := rfl

@[simp] theorem State.advancePc_queue (s : State) (n : Nat) :
    (s.advancePc n).queue = s.queue := rfl

@[simp] theorem State.advancePc_run (s : State) (n : Nat) :
    (s.advancePc n).run = s.run := rfl

@[simp] theorem State.advancePc_retired (s : State) (n : Nat) :
    (s.advancePc n).retired = s.retired := rfl

@[simp] theorem State.advancePc_freeDraws (s : State) (n : Nat) :
    (s.advancePc n).freeDraws = s.freeDraws := rfl

@[simp] theorem State.write8_reg8 (s : State) (a : Word) (v : Byte) (r : Reg8) :
    (s.write8 a v).reg8 r = s.reg8 r := by cases r <;> rfl

@[simp] theorem State.write8_f (s : State) (a : Word) (v : Byte) :
    (s.write8 a v).regs.f = s.regs.f := rfl

@[simp] theorem State.write8_sp (s : State) (a : Word) (v : Byte) :
    (s.write8 a v).regs.sp = s.regs.sp := rfl

@[simp] theorem State.write8_pc (s : State) (a : Word) (v : Byte) :
    (s.write8 a v).regs.pc = s.regs.pc := rfl

@[simp] theorem State.write8_mem (s : State) (a : Word) (v : Byte) :
    (s.write8 a v).mem = s.mem.poke a v := rfl

@[simp] theorem State.write8_queue (s : State) (a : Word) (v : Byte) :
    (s.write8 a v).queue = s.queue := rfl

@[simp] theorem State.write8_run (s : State) (a : Word) (v : Byte) :
    (s.write8 a v).run = s.run := rfl

@[simp] theorem State.write8_retired (s : State) (a : Word) (v : Byte) :
    (s.write8 a v).retired = s.retired := rfl

@[simp] theorem State.write8_freeDraws (s : State) (a : Word) (v : Byte) :
    (s.write8 a v).freeDraws = s.freeDraws := rfl

@[simp] theorem State.setFlags_reg8 (s : State) (z n h c : Bool) (r : Reg8) :
    (s.setFlags z n h c).reg8 r = s.reg8 r := by cases r <;> rfl

@[simp] theorem State.setFlags_f (s : State) (z n h c : Bool) :
    (s.setFlags z n h c).regs.f = packF z n h c &&& 0xF0#8 := rfl

@[simp] theorem State.setFlags_sp (s : State) (z n h c : Bool) :
    (s.setFlags z n h c).regs.sp = s.regs.sp := rfl

@[simp] theorem State.setFlags_pc (s : State) (z n h c : Bool) :
    (s.setFlags z n h c).regs.pc = s.regs.pc := rfl

@[simp] theorem State.setFlags_mem (s : State) (z n h c : Bool) :
    (s.setFlags z n h c).mem = s.mem := rfl

@[simp] theorem State.setFlags_queue (s : State) (z n h c : Bool) :
    (s.setFlags z n h c).queue = s.queue := rfl

@[simp] theorem State.setFlags_run (s : State) (z n h c : Bool) :
    (s.setFlags z n h c).run = s.run := rfl

@[simp] theorem State.setFlags_retired (s : State) (z n h c : Bool) :
    (s.setFlags z n h c).retired = s.retired := rfl

@[simp] theorem State.setFlags_freeDraws (s : State) (z n h c : Bool) :
    (s.setFlags z n h c).freeDraws = s.freeDraws := rfl

@[simp] theorem State.setFlagsOf_reg8 (s : State) (x : Alu8) (r : Reg8) :
    (s.setFlagsOf x).reg8 r = s.reg8 r := by cases r <;> rfl

@[simp] theorem State.setFlagsOf_f (s : State) (x : Alu8) :
    (s.setFlagsOf x).regs.f = packF x.z x.n x.h x.c &&& 0xF0#8 := rfl

@[simp] theorem State.setFlagsOf_sp (s : State) (x : Alu8) :
    (s.setFlagsOf x).regs.sp = s.regs.sp := rfl

@[simp] theorem State.setFlagsOf_pc (s : State) (x : Alu8) :
    (s.setFlagsOf x).regs.pc = s.regs.pc := rfl

@[simp] theorem State.setFlagsOf_mem (s : State) (x : Alu8) :
    (s.setFlagsOf x).mem = s.mem := rfl

@[simp] theorem State.setFlagsOf_queue (s : State) (x : Alu8) :
    (s.setFlagsOf x).queue = s.queue := rfl

@[simp] theorem State.setFlagsOf_run (s : State) (x : Alu8) :
    (s.setFlagsOf x).run = s.run := rfl

@[simp] theorem State.setFlagsOf_retired (s : State) (x : Alu8) :
    (s.setFlagsOf x).retired = s.retired := rfl

@[simp] theorem State.setFlagsOf_freeDraws (s : State) (x : Alu8) :
    (s.setFlagsOf x).freeDraws = s.freeDraws := rfl

@[simp] theorem State.raise_mem (s : State) (e : FatalError) :
    (s.raise e).mem = unspecifiedMemory s.freeDraws := rfl

@[simp] theorem State.raise_queue (s : State) (e : FatalError) :
    (s.raise e).queue = s.queue := rfl

@[simp] theorem State.raise_run (s : State) (e : FatalError) :
    (s.raise e).run = .terminated e := rfl

@[simp] theorem State.raise_retired (s : State) (e : FatalError) :
    (s.raise e).retired = s.retired := rfl

@[simp] theorem State.raise_freeDraws (s : State) (e : FatalError) :
    (s.raise e).freeDraws = s.freeDraws + 1 := rfl

/-! ## Each register is read through `reg8` -/

@[simp] theorem State.regs_a (s : State) : s.regs.a = s.reg8 .a := rfl

@[simp] theorem State.regs_b (s : State) : s.regs.b = s.reg8 .b := rfl

@[simp] theorem State.regs_c (s : State) : s.regs.c = s.reg8 .c := rfl

@[simp] theorem State.regs_d (s : State) : s.regs.d = s.reg8 .d := rfl

@[simp] theorem State.regs_e (s : State) : s.regs.e = s.reg8 .e := rfl

@[simp] theorem State.regs_h (s : State) : s.regs.h = s.reg8 .h := rfl

@[simp] theorem State.regs_l (s : State) : s.regs.l = s.reg8 .l := rfl

theorem State.hl_eq (s : State) : s.hl = wordOf (s.reg8 .h) (s.reg8 .l) := rfl

theorem State.read8_eq (s : State) (a : Word) : s.read8 a = s.mem.peek a := rfl

end Sys2Proof.Machine
end

