-- ==== Sys2Proof/Laws/Ops.lean ====
section
/-! SUPPORT. What each shared operation can do, said once: the end of an effect, the stack, the deferred queue, flags and
pairs. -/

namespace Sys2Proof.Laws

open Sys2Proof Sys2Proof.Machine

/-! ## Bytes of the state -/

@[simp] theorem read8_write8 (s : State) (a b : Word) (v : Byte) :
    (s.write8 a v).read8 b = if canon a.toNat = canon b.toNat then v else s.read8 b := by
  simp only [State.read8, State.write8_mem, peek_poke]

theorem read8_of_mem_eq {s t : State} (h : t.mem = s.mem) (a : Word) : t.read8 a = s.read8 a := by
  simp only [State.read8, h]

/-! ## The end of an effect -/

@[simp] theorem finish_ok (s t : State) : finish s (.ok t) = .next t := rfl

@[simp] theorem finish_error (s : State) (e : FatalError) : finish s (.error e) = .next (s.raise e) := rfl

/-- An effect that can raise leaves its own state or the entry into its error. -/
theorem finish_cases {s t : State} {r : Except FatalError State} (h : finish s r = .next t) :
    r = .ok t ∨ ∃ e, r = .error e ∧ t = s.raise e := by
  cases r with
  | ok u => exact .inl (by cases h; rfl)
  | error e => exact .inr ⟨e, rfl, by cases h; rfl⟩

theorem raised_raise (s : State) (e : FatalError) : Raised e s (s.raise e) := ⟨rfl, rfl, rfl⟩

/-! ## Flags -/

theorem packF_bits (z n h c : Bool) :
    (packF z n h c &&& 0xF0#8).getLsbD 7 = z ∧ (packF z n h c &&& 0xF0#8).getLsbD 6 = n ∧
    (packF z n h c &&& 0xF0#8).getLsbD 5 = h ∧ (packF z n h c &&& 0xF0#8).getLsbD 4 = c ∧
    (packF z n h c &&& 0xF0#8) &&& 0x0F#8 = 0#8 := by
  cases z <;> cases n <;> cases h <;> cases c <;> decide

/-- Writing the flags sets them and leaves bits 3..0 of F zero. -/
theorem flagsAre_of_f {t : State} {z n h c : Bool} (hf : t.regs.f = packF z n h c &&& 0xF0#8) : FlagsAre t z n h c := by
  obtain ⟨hz, hn, hh, hc, hl⟩ := packF_bits z n h c
  exact ⟨by simp only [State.flagZ, hf, hz], by simp only [State.flagN, hf, hn], by simp only [State.flagH, hf, hh],
    by simp only [State.flagC, hf, hc], by rw [hf, hl]⟩

/-! ## The stack -/

/-- A push stores the word below the stack pointer, low byte lower, or raises from SP = 0x0001 (R75). -/
theorem push16_eq (v : Word) (s : State) :
    push16 v s =
      if s.regs.sp = 0x0001#16 then .error (.addressOutOfRange 0xFFFF)
      else .ok (((s.setSp (s.regs.sp - 2#16)).write8 (s.regs.sp - 2#16) (loByte v)).write8 (s.regs.sp - 1#16) (hiByte v)) := by
  have hiff : s.regs.sp - 2#16 = 0xFFFF#16 ↔ s.regs.sp = 0x0001#16 := by
    constructor <;> intro h <;> bv_omega
  have hsucc : s.regs.sp - 2#16 + 1#16 = s.regs.sp - 1#16 := by bv_omega
  simp only [push16, State.write16, State.setSp_sp, State.setSp_mem, writeWord_of_word, hiff, hsucc]
  by_cases h : s.regs.sp = 0x0001#16
  · simp only [h, if_true]
  · simp only [h, if_false, State.write8]
    rfl

/-- A pop reads the word at the stack pointer, or raises at SP = 0xFFFF (R76). -/
theorem pop16_eq (s : State) :
    pop16 s =
      if s.regs.sp = 0xFFFF#16 then .error (.addressOutOfRange 0xFFFF)
      else .ok (wordOf (s.read8 (s.regs.sp + 1#16)) (s.read8 s.regs.sp), s.setSp (s.regs.sp + 2#16)) := by
  simp only [pop16, readWord_of_word]
  split
  · rename_i v h
    split at h
    · cases h
    · rename_i hn
      cases h
      rw [if_neg hn]
      rfl
  · rename_i e h
    split at h
    · rename_i hs
      cases h
      rw [if_pos hs]
    · cases h

/-- The two bytes a push stores are different cells. -/
theorem canon_stack_ne {w : Word} (h : w ≠ 0x0001#16) : canon (w - 1#16).toNat ≠ canon (w - 2#16).toNat := by
  have : (w - 1#16).toNat = (w - 2#16).toNat + 1 := by
    have h2 : w - 1#16 = (w - 2#16) + 1#16 := by bv_omega
    rw [h2]
    exact succ_toNat (by intro e; apply h; bv_omega)
  exact fun e => canon_ne_succ this e.symm

/-! ## The deferred queue -/

theorem fireAll_frame (q : List Deferred) (s : State) :
    (fireAll q s).regs = s.regs ∧ (fireAll q s).queue = s.queue ∧ (fireAll q s).run = s.run ∧
      (fireAll q s).retired = s.retired ∧ (fireAll q s).freeDraws = s.freeDraws := by
  induction q generalizing s with
  | nil => exact ⟨rfl, rfl, rfl, rfl, rfl⟩
  | cons e rest ih => exact ih _

/-- Firing writes IE and no other byte. -/
theorem fireAll_read8 (q : List Deferred) (s : State) (a : Word) (h : canon a.toNat ≠ canon addrIE.toNat) :
    (fireAll q s).read8 a = s.read8 a := by
  induction q generalizing s with
  | nil => rfl
  | cons e rest ih =>
    simp only [fireAll, ih, read8_write8]
    rw [if_neg (Ne.symm h)]

theorem fireAll_wf (q : List Deferred) (s : State) (h : s.mem.wf = true) : (fireAll q s).mem.wf = true := by
  induction q generalizing s with
  | nil => exact h
  | cons e rest ih => exact ih _ (wf_poke _ _ h)

/-- A tick changes the queue and, where an entry fires, the byte IE; nothing else (R41). -/
theorem tick_frame (s : State) :
    (tick s).regs = s.regs ∧ (tick s).run = s.run ∧ (tick s).retired = s.retired ∧ (tick s).freeDraws = s.freeDraws ∧
      (tick s).queue = (countDown s.queue).filter (fun e => e.countdown != 0) ∧
      (∀ a : Word, canon a.toNat ≠ canon addrIE.toNat → (tick s).read8 a = s.read8 a) ∧
      (s.mem.wf = true → (tick s).mem.wf = true) := by
  have hf := fireAll_frame ((countDown s.queue).filter fun e => e.countdown == 0)
    (s.setQueue ((countDown s.queue).filter fun e => e.countdown != 0))
  exact ⟨hf.1, hf.2.2.1, hf.2.2.2.1, hf.2.2.2.2, hf.2.1, fun a ha => fireAll_read8 _ _ a ha, fun h => fireAll_wf _ _ h⟩

/-- A settled queue's action fires at the next tick, and the queue is empty. -/
theorem tick_settled {s : State} {effect : DeferredEffect} (h : s.queue = [⟨1, effect⟩]) :
    tick s = (s.setQueue []).write8 addrIE effect.ieValue := by
  simp [tick, h, countDown, fireAll]

theorem tick_empty {s : State} (h : s.queue = []) : tick s = s := by
  simp only [tick, h, countDown, List.map_nil, List.filter_nil, fireAll, State.setQueue]
  cases s
  simp_all

end Sys2Proof.Laws
end

