-- ==== Sys2Proof/Laws/Exec.lean ====
section
/-! SUPPORT. What running an instruction can do, said once for every instruction: it completes or it enters a fatal error, and
what each leaves. -/

namespace Sys2Proof.Laws

open Sys2Proof Sys2Proof.Machine

/-! ## Effects that write registers, flags and memory only -/

/-- Nothing but registers other than PC, and memory, changes; memory keeps its form and F its zero bits. -/
structure Quiet (s t : State) : Prop where
  pc : t.regs.pc = s.regs.pc
  queue : t.queue = s.queue
  run : t.run = s.run
  retired : t.retired = s.retired
  freeDraws : t.freeDraws = s.freeDraws
  memWf : s.mem.wf = true → t.mem.wf = true
  fLow : s.regs.f &&& 0x0F#8 = 0#8 → t.regs.f &&& 0x0F#8 = 0#8

theorem Quiet.rfl {s : State} : Quiet s s := ⟨Eq.refl _, Eq.refl _, Eq.refl _, Eq.refl _, Eq.refl _, id, id⟩

theorem Quiet.trans {s t u : State} (h : Quiet s t) (k : Quiet t u) : Quiet s u :=
  ⟨k.pc.trans h.pc, k.queue.trans h.queue, k.run.trans h.run, k.retired.trans h.retired, k.freeDraws.trans h.freeDraws,
    fun w => k.memWf (h.memWf w), fun w => k.fLow (h.fLow w)⟩

theorem quiet_setReg8 (s : State) (r : Reg8) (v : Byte) : Quiet s (s.setReg8 r v) := by
  cases r <;> exact ⟨rfl, rfl, rfl, rfl, rfl, id, id⟩

theorem f_low (v : Byte) : (v &&& 0xF0#8) &&& 0x0F#8 = 0#8 := by
  rw [BitVec.and_assoc]
  exact BitVec.and_zero

theorem quiet_setF (s : State) (v : Byte) : Quiet s (s.setF v) := ⟨rfl, rfl, rfl, rfl, rfl, id, fun _ => f_low v⟩

theorem quiet_setFlags (s : State) (z n h c : Bool) : Quiet s (s.setFlags z n h c) := quiet_setF s _

theorem quiet_setSp (s : State) (v : Word) : Quiet s (s.setSp v) := ⟨rfl, rfl, rfl, rfl, rfl, id, id⟩

theorem quiet_write8 (s : State) (a : Word) (v : Byte) : Quiet s (s.write8 a v) :=
  ⟨rfl, rfl, rfl, rfl, rfl, wf_poke a v, id⟩

theorem quiet_setHl (s : State) (v : Word) : Quiet s (s.setHl v) := (quiet_setReg8 s _ _).trans (quiet_setReg8 _ _ _)

theorem quiet_setBc (s : State) (v : Word) : Quiet s (s.setBc v) := (quiet_setReg8 s _ _).trans (quiet_setReg8 _ _ _)

theorem quiet_setDe (s : State) (v : Word) : Quiet s (s.setDe v) := (quiet_setReg8 s _ _).trans (quiet_setReg8 _ _ _)

theorem quiet_setAf (s : State) (v : Word) : Quiet s (s.setAf v) := (quiet_setReg8 s _ _).trans (quiet_setF _ _)

theorem quiet_setRp (s : State) (p : Rp) (v : Word) : Quiet s (s.setRp p v) := by
  cases p
  · exact quiet_setBc s v
  · exact quiet_setDe s v
  · exact quiet_setHl s v
  · exact quiet_setSp s v

theorem quiet_setRp2 (s : State) (p : Rp2) (v : Word) : Quiet s (s.setRp2 p v) := by
  cases p
  · exact quiet_setBc s v
  · exact quiet_setDe s v
  · exact quiet_setHl s v
  · exact quiet_setAf s v

/-! ## Every instruction -/

/-- What an instruction adds to the deferred queue (R260, R281, R282). -/
def scheduled : Instr → List Deferred
  | .di => [⟨2, .disableIE⟩]
  | .ei => [⟨2, .enableIE⟩]
  | .reti => [⟨2, .enableIE⟩]
  | _ => []

/-- Whether an instruction is STOP (R284). -/
def isStop : Instr → Bool
  | .stop _ => true
  | _ => false

/-- What an effect that raises nothing leaves, whatever the instruction. -/
structure Ran (i : Instr) (s t : State) : Prop where
  pc : i.ownsPc = false → t.regs.pc = s.regs.pc
  queue : t.queue = s.queue ++ scheduled i
  run : t.run = if isStop i then .stopped else s.run
  retired : t.retired = s.retired
  freeDraws : t.freeDraws = s.freeDraws
  memWf : s.mem.wf = true → t.mem.wf = true
  fLow : s.regs.f &&& 0x0F#8 = 0#8 → t.regs.f &&& 0x0F#8 = 0#8

/-- The errors an effect can raise. -/
def CanRaise (i : Instr) (e : FatalError) : Prop :=
  e = .addressOutOfRange 0xFFFF ∨ (∃ key, e = .undefinedOpcode key) ∨
    ((∃ key, e = .unimplementedOpcode key) ∧ (i = .daa ∨ i = .halt ∨ i = .swap_iHL))

/-- A result is a next state that the effect ran to, or the entry into an error it can raise. -/
def Completes (i : Instr) (s : State) (r : Result) : Prop :=
  ∃ t, r = .next t ∧ (Ran i s t ∨ ∃ e, CanRaise i e ∧ t = s.raise e)

theorem completes_of_quiet {i : Instr} {s t : State} (h : Quiet s t) (hs : scheduled i = []) (hi : isStop i = false) :
    Completes i s (.next t) :=
  ⟨t, rfl, .inl ⟨fun _ => h.pc, by rw [hs, List.append_nil, h.queue], by rw [hi, h.run]; rfl, h.retired, h.freeDraws,
    h.memWf, h.fLow⟩⟩

theorem completes_of_raise {i : Instr} {s : State} {e : FatalError} (h : CanRaise i e) :
    Completes i s (finish s (.error e)) := ⟨_, rfl, .inr ⟨e, h, rfl⟩⟩

/-- A control transfer that writes pc after a quiet effect. -/
theorem completes_of_jump {i : Instr} {s t : State} (v : Word) (h : Quiet s t) (ho : i.ownsPc = true)
    (hs : scheduled i = []) (hi : isStop i = false) : Completes i s (.next (t.setPc v)) :=
  ⟨_, rfl, .inl ⟨fun h' => (by rw [ho] at h'; cases h'), by rw [hs, List.append_nil]; exact h.queue,
    by rw [hi]; exact h.run, h.retired, h.freeDraws, h.memWf, h.fLow⟩⟩

section Shared

variable {i : Instr} (s : State)

theorem completes_aluA (op : AluOp) (v : Byte) (hs : scheduled i = []) (hi : isStop i = false) :
    Completes i s (aluA op v s) := by
  refine completes_of_quiet (.trans ?_ (quiet_setFlags _ _ _ _ _)) hs hi
  split
  · exact .rfl
  · exact quiet_setReg8 _ _ _

theorem completes_updateReg (f : Byte → Alu8) (r : Reg8) (hs : scheduled i = []) (hi : isStop i = false) :
    Completes i s (updateReg f r s) :=
  completes_of_quiet ((quiet_setReg8 _ _ _).trans (quiet_setFlags _ _ _ _ _)) hs hi

theorem completes_updateAtHL (f : Byte → Alu8) (hs : scheduled i = []) (hi : isStop i = false) :
    Completes i s (updateAtHL f s) :=
  completes_of_quiet ((quiet_write8 _ _ _).trans (quiet_setFlags _ _ _ _ _)) hs hi

theorem completes_shiftRegister (op : ShiftOp) (r : Reg8) (hs : scheduled i = []) (hi : isStop i = false) :
    Completes i s (shiftRegister op r s) := completes_updateReg s _ r hs hi

theorem completes_shiftAtHL (op : ShiftOp) (hs : scheduled i = []) (hi : isStop i = false) :
    Completes i s (shiftAtHL op s) := completes_updateAtHL s _ hs hi

theorem completes_addToHL (p : Rp) (hs : scheduled i = []) (hi : isStop i = false) : Completes i s (addToHL p s) :=
  completes_of_quiet ((quiet_setHl _ _).trans (quiet_setFlags _ _ _ _ _)) hs hi

theorem completes_storeAMoveHL (d : Word) (hs : scheduled i = []) (hi : isStop i = false) :
    Completes i s (storeAMoveHL d s) :=
  completes_of_quiet ((quiet_write8 _ _ _).trans (quiet_setHl _ _)) hs hi

theorem completes_loadAMoveHL (d : Word) (hs : scheduled i = []) (hi : isStop i = false) :
    Completes i s (loadAMoveHL d s) :=
  completes_of_quiet ((quiet_setReg8 _ _ _).trans (quiet_setHl _ _)) hs hi

theorem completes_storeSp (a : Word) (hs : scheduled i = []) (hi : isStop i = false) : Completes i s (storeSp a s) := by
  simp only [storeSp, State.write16, writeWord_of_word]
  split
  · rename_i m h
    split at h
    · cases h
    · cases h
      exact completes_of_quiet (quiet_write8 s a _ |>.trans (quiet_write8 _ (a + 1#16) _)) hs hi
  · rename_i e h
    split at h
    · cases h
      exact completes_of_raise (.inl rfl)
    · cases h

/-- A push leaves a quiet state or raises the one error. -/
theorem push16_cases (v : Word) :
    push16 v s = .error (.addressOutOfRange 0xFFFF) ∨ ∃ t, push16 v s = .ok t ∧ Quiet s t := by
  rw [push16_eq]
  split
  · exact .inl rfl
  · exact .inr ⟨_, rfl, (quiet_setSp _ _).trans ((quiet_write8 _ _ _).trans (quiet_write8 _ _ _))⟩

theorem completes_pushPair (p : Rp2) (hs : scheduled i = []) (hi : isStop i = false) : Completes i s (pushPair p s) := by
  rcases push16_cases s (s.rp2 p) with h | ⟨t, h, q⟩
  · simp only [pushPair, h]
    exact completes_of_raise (.inl rfl)
  · simp only [pushPair, h]
    exact completes_of_quiet q hs hi

theorem completes_popPair (p : Rp2) (hs : scheduled i = []) (hi : isStop i = false) : Completes i s (popPair p s) := by
  by_cases h : s.regs.sp = 0xFFFF#16
  · simp only [popPair, pop16_eq, if_pos h]
    exact completes_of_raise (.inl rfl)
  · simp only [popPair, pop16_eq, if_neg h]
    exact completes_of_quiet ((quiet_setSp _ _).trans (quiet_setRp2 _ _ _)) hs hi

theorem completes_jumpTo (v : Word) (ho : i.ownsPc = true) (hs : scheduled i = []) (hi : isStop i = false) :
    Completes i s (jumpTo v s) := completes_of_jump v .rfl ho hs hi

theorem completes_jumpIf (cc : Cond) (v : Word) (ho : i.ownsPc = true) (hs : scheduled i = []) (hi : isStop i = false) :
    Completes i s (jumpIf cc v s) := by
  unfold jumpIf
  split <;> exact completes_of_jump _ .rfl ho hs hi

theorem completes_jumpRelIf (cc : Cond) (e : Byte) (ho : i.ownsPc = true) (hs : scheduled i = [])
    (hi : isStop i = false) : Completes i s (jumpRelIf cc e s) := by
  unfold jumpRelIf
  split <;> exact completes_of_jump _ .rfl ho hs hi

theorem completes_callFrom (ret v : Word) (ho : i.ownsPc = true) (hs : scheduled i = []) (hi : isStop i = false) :
    Completes i s (callFrom ret v s) := by
  rcases push16_cases s ret with h | ⟨t, h, q⟩
  · simp only [callFrom, h]
    exact completes_of_raise (.inl rfl)
  · simp only [callFrom, h]
    exact completes_of_jump v q ho hs hi

theorem completes_callIf (cc : Cond) (v : Word) (ho : i.ownsPc = true) (hs : scheduled i = []) (hi : isStop i = false) :
    Completes i s (callIf cc v s) := by
  unfold callIf
  split
  · exact completes_callFrom s _ v ho hs hi
  · exact completes_of_jump _ .rfl ho hs hi

/-- A return goes to the popped word, or raises the one error (R258). -/
theorem popPc_eq :
    popPc s =
      if s.regs.sp = 0xFFFF#16 then .error (.addressOutOfRange 0xFFFF)
      else .ok ((s.setSp (s.regs.sp + 2#16)).setPc (wordOf (s.read8 (s.regs.sp + 1#16)) (s.read8 s.regs.sp))) := by
  by_cases h : s.regs.sp = 0xFFFF#16
  · simp only [popPc, pop16_eq, if_pos h]
  · simp only [popPc, pop16_eq, if_neg h]

theorem completes_popPc (ho : i.ownsPc = true) (hs : scheduled i = []) (hi : isStop i = false) :
    Completes i s (finish s (popPc s)) := by
  rw [popPc_eq]
  split
  · exact completes_of_raise (.inl rfl)
  · exact completes_of_jump _ (quiet_setSp _ _) ho hs hi

theorem completes_returnIf (cc : Cond) (ho : i.ownsPc = true) (hs : scheduled i = []) (hi : isStop i = false) :
    Completes i s (returnIf cc s) := by
  unfold returnIf
  split
  · exact completes_popPc s ho hs hi
  · exact completes_of_quiet .rfl hs hi

theorem completes_reti : Completes .reti s (execReti s) := by
  simp only [execReti, popPc_eq]
  by_cases h : s.regs.sp = 0xFFFF#16
  · simp only [if_pos h]
    exact completes_of_raise (.inl rfl)
  · simp only [if_neg h]
    exact ⟨_, rfl, .inl ⟨fun h' => (by cases h'), rfl, rfl, rfl, rfl, id, id⟩⟩

end Shared

set_option maxHeartbeats 1000000 in
/-- The one inversion of `exec`: every instruction, in every state, runs to a next state or enters a fatal error it can
raise. -/
theorem exec_completes (i : Instr) (s : State) : Completes i s (exec i s) := by
  cases i
  case nop => exact completes_of_quiet .rfl rfl rfl
  case stop n => exact ⟨_, rfl, .inl ⟨fun _ => rfl, (List.append_nil _).symm, rfl, rfl, rfl, id, id⟩⟩
  case di => exact ⟨_, rfl, .inl ⟨fun _ => rfl, rfl, rfl, rfl, rfl, id, id⟩⟩
  case ei => exact ⟨_, rfl, .inl ⟨fun _ => rfl, rfl, rfl, rfl, rfl, id, id⟩⟩
  case reti => exact completes_reti s
  case daa => exact completes_of_raise (.inr (.inr ⟨⟨_, rfl⟩, .inl rfl⟩))
  case halt => exact completes_of_raise (.inr (.inr ⟨⟨_, rfl⟩, .inr (.inl rfl)⟩))
  case swap_iHL => exact completes_of_raise (.inr (.inr ⟨⟨_, rfl⟩, .inr (.inr rfl)⟩))
  case undefinedKey k => exact completes_of_raise (.inr (.inl ⟨_, rfl⟩))
  case escape_ED k => exact completes_of_raise (.inr (.inl ⟨_, rfl⟩))
  case ld_ia16_SP a => exact completes_storeSp s a rfl rfl
  case ld_SP_HL => exact completes_of_quiet (quiet_setSp s _) rfl rfl
  case add_SP_e8 e => exact completes_of_quiet ((quiet_setSp _ _).trans (quiet_setFlags _ _ _ _ _)) rfl rfl
  case ld_HL_SPe8 e => exact completes_of_quiet ((quiet_setHl _ _).trans (quiet_setFlags _ _ _ _ _)) rfl rfl
  case cpl => exact completes_of_quiet ((quiet_setReg8 _ _ _).trans (quiet_setFlags _ _ _ _ _)) rfl rfl
  case rlca => exact completes_updateReg s rlc8 .a rfl rfl
  case rrca => exact completes_updateReg s rrc8 .a rfl rfl
  case rla => exact completes_updateReg s (fun v => rl8 v s.flagC) .a rfl rfl
  case rra => exact completes_updateReg s (fun v => rr8 v s.flagC) .a rfl rfl
  case inc_iHL => exact completes_updateAtHL s (fun v => inc8 v s.flagC) rfl rfl
  case dec_iHL => exact completes_updateAtHL s (fun v => dec8 v s.flagC) rfl rfl
  case scf => exact completes_of_quiet (quiet_setFlags s _ _ _ _) rfl rfl
  case ccf => exact completes_of_quiet (quiet_setFlags s _ _ _ _) rfl rfl
  case ld_BC_n16 | ld_DE_n16 | ld_HL_n16 | ld_SP_n16 | inc_BC | dec_BC | inc_DE | dec_DE | inc_HL | dec_HL
      | inc_SP | dec_SP =>
    exact completes_of_quiet (quiet_setRp s _ _) rfl rfl
  case ld_B_n8 | ld_C_n8 | ld_D_n8 | ld_E_n8 | ld_H_n8 | ld_L_n8 | ld_A_n8 | ldh_A_ia8 | ld_A_ia16 | ld_A_iBC
      | ld_A_iDE | ld_B_B | ld_B_C | ld_B_D | ld_B_E | ld_B_H | ld_B_L | ld_B_iHL | ld_B_A | ld_C_B | ld_C_C
      | ld_C_D | ld_C_E | ld_C_H | ld_C_L | ld_C_iHL | ld_C_A | ld_D_B | ld_D_C | ld_D_D | ld_D_E | ld_D_H
      | ld_D_L | ld_D_iHL | ld_D_A | ld_E_B | ld_E_C | ld_E_D | ld_E_E | ld_E_H | ld_E_L | ld_E_iHL | ld_E_A
      | ld_H_B | ld_H_C | ld_H_D | ld_H_E | ld_H_H | ld_H_L | ld_H_iHL | ld_H_A | ld_L_B | ld_L_C | ld_L_D
      | ld_L_E | ld_L_H | ld_L_L | ld_L_iHL | ld_L_A | ld_A_B | ld_A_C | ld_A_D | ld_A_E | ld_A_H | ld_A_L
      | ld_A_iHL | ld_A_A | ld_A_iC | res_0_B | res_0_C | res_0_D | res_0_E | res_0_H | res_0_L | res_0_A
      | res_1_B | res_1_C | res_1_D | res_1_E | res_1_H | res_1_L | res_1_A | res_2_B | res_2_C | res_2_D
      | res_2_E | res_2_H | res_2_L | res_2_A | res_3_B | res_3_C | res_3_D | res_3_E | res_3_H | res_3_L
      | res_3_A | res_4_B | res_4_C | res_4_D | res_4_E | res_4_H | res_4_L | res_4_A | res_5_B | res_5_C
      | res_5_D | res_5_E | res_5_H | res_5_L | res_5_A | res_6_B | res_6_C | res_6_D | res_6_E | res_6_H
      | res_6_L | res_6_A | res_7_B | res_7_C | res_7_D | res_7_E | res_7_H | res_7_L | res_7_A | set_0_B
      | set_0_C | set_0_D | set_0_E | set_0_H | set_0_L | set_0_A | set_1_B | set_1_C | set_1_D | set_1_E
      | set_1_H | set_1_L | set_1_A | set_2_B | set_2_C | set_2_D | set_2_E | set_2_H | set_2_L | set_2_A
      | set_3_B | set_3_C | set_3_D | set_3_E | set_3_H | set_3_L | set_3_A | set_4_B | set_4_C | set_4_D
      | set_4_E | set_4_H | set_4_L | set_4_A | set_5_B | set_5_C | set_5_D | set_5_E | set_5_H | set_5_L
      | set_5_A | set_6_B | set_6_C | set_6_D | set_6_E | set_6_H | set_6_L | set_6_A | set_7_B | set_7_C
      | set_7_D | set_7_E | set_7_H | set_7_L | set_7_A =>
    exact completes_of_quiet (quiet_setReg8 s _ _) rfl rfl
  case jr_e8 | jp_a16 | jp_HL =>
    exact completes_jumpTo s _ rfl rfl rfl
  case jr_NZ_e8 | jr_Z_e8 | jr_NC_e8 | jr_C_e8 =>
    exact completes_jumpRelIf s _ _ rfl rfl rfl
  case ld_iHL_n8 | ldh_ia8_A | ld_ia16_A | ld_iBC_A | ld_iDE_A | ld_iHL_B | ld_iHL_C | ld_iHL_D | ld_iHL_E
      | ld_iHL_H | ld_iHL_L | ld_iHL_A | ld_iC_A | res_0_iHL | res_1_iHL | res_2_iHL | res_3_iHL | res_4_iHL
      | res_5_iHL | res_6_iHL | res_7_iHL | set_0_iHL | set_1_iHL | set_2_iHL | set_3_iHL | set_4_iHL
      | set_5_iHL | set_6_iHL | set_7_iHL =>
    exact completes_of_quiet (quiet_write8 s _ _) rfl rfl
  case jp_NZ_a16 | jp_Z_a16 | jp_NC_a16 | jp_C_a16 =>
    exact completes_jumpIf s _ _ rfl rfl rfl
  case call_NZ_a16 | call_Z_a16 | call_NC_a16 | call_C_a16 =>
    exact completes_callIf s _ _ rfl rfl rfl
  case add_A_n8 | adc_A_n8 | sub_A_n8 | sbc_A_n8 | and_A_n8 | xor_A_n8 | or_A_n8 | cp_A_n8 | add_A_B | add_A_C
      | add_A_D | add_A_E | add_A_H | add_A_L | add_A_iHL | add_A_A | adc_A_B | adc_A_C | adc_A_D | adc_A_E
      | adc_A_H | adc_A_L | adc_A_iHL | adc_A_A | sub_A_B | sub_A_C | sub_A_D | sub_A_E | sub_A_H | sub_A_L
      | sub_A_iHL | sub_A_A | sbc_A_B | sbc_A_C | sbc_A_D | sbc_A_E | sbc_A_H | sbc_A_L | sbc_A_iHL | sbc_A_A
      | and_A_B | and_A_C | and_A_D | and_A_E | and_A_H | and_A_L | and_A_iHL | and_A_A | xor_A_B | xor_A_C
      | xor_A_D | xor_A_E | xor_A_H | xor_A_L | xor_A_iHL | xor_A_A | or_A_B | or_A_C | or_A_D | or_A_E
      | or_A_H | or_A_L | or_A_iHL | or_A_A | cp_A_B | cp_A_C | cp_A_D | cp_A_E | cp_A_H | cp_A_L | cp_A_iHL
      | cp_A_A =>
    exact completes_aluA s _ _ rfl rfl
  case call_a16 | rst_00 | rst_08 | rst_10 | rst_18 | rst_20 | rst_28 | rst_30 | rst_38 =>
    exact completes_callFrom s _ _ rfl rfl rfl
  case inc_B | inc_C | inc_D | inc_E | inc_H | inc_L | inc_A =>
    exact completes_updateReg s (fun v => inc8 v s.flagC) _ rfl rfl
  case dec_B | dec_C | dec_D | dec_E | dec_H | dec_L | dec_A =>
    exact completes_updateReg s (fun v => dec8 v s.flagC) _ rfl rfl
  case add_HL_BC | add_HL_DE | add_HL_HL | add_HL_SP =>
    exact completes_addToHL s _ rfl rfl
  case ld_iHLinc_A | ld_iHLdec_A =>
    exact completes_storeAMoveHL s _ rfl rfl
  case ld_A_iHLinc | ld_A_iHLdec =>
    exact completes_loadAMoveHL s _ rfl rfl
  case ret_NZ | ret_Z | ret_NC | ret_C =>
    exact completes_returnIf s _ rfl rfl rfl
  case pop_BC | pop_DE | pop_HL | pop_AF =>
    exact completes_popPair s _ rfl rfl
  case push_BC | push_DE | push_HL | push_AF =>
    exact completes_pushPair s _ rfl rfl
  case ret =>
    exact completes_popPc s rfl rfl rfl
  case rlc_B | rlc_C | rlc_D | rlc_E | rlc_H | rlc_L | rlc_A | rrc_B | rrc_C | rrc_D | rrc_E | rrc_H | rrc_L
      | rrc_A | rl_B | rl_C | rl_D | rl_E | rl_H | rl_L | rl_A | rr_B | rr_C | rr_D | rr_E | rr_H | rr_L
      | rr_A | sla_B | sla_C | sla_D | sla_E | sla_H | sla_L | sla_A | sra_B | sra_C | sra_D | sra_E | sra_H
      | sra_L | sra_A | swap_B | swap_C | swap_D | swap_E | swap_H | swap_L | swap_A | srl_B | srl_C | srl_D
      | srl_E | srl_H | srl_L | srl_A =>
    exact completes_shiftRegister s _ _ rfl rfl
  case rlc_iHL | rrc_iHL | rl_iHL | rr_iHL | sla_iHL | sra_iHL | srl_iHL =>
    exact completes_shiftAtHL s _ rfl rfl
  case bit_0_B | bit_0_C | bit_0_D | bit_0_E | bit_0_H | bit_0_L | bit_0_iHL | bit_0_A | bit_1_B | bit_1_C
      | bit_1_D | bit_1_E | bit_1_H | bit_1_L | bit_1_iHL | bit_1_A | bit_2_B | bit_2_C | bit_2_D | bit_2_E
      | bit_2_H | bit_2_L | bit_2_iHL | bit_2_A | bit_3_B | bit_3_C | bit_3_D | bit_3_E | bit_3_H | bit_3_L
      | bit_3_iHL | bit_3_A | bit_4_B | bit_4_C | bit_4_D | bit_4_E | bit_4_H | bit_4_L | bit_4_iHL | bit_4_A
      | bit_5_B | bit_5_C | bit_5_D | bit_5_E | bit_5_H | bit_5_L | bit_5_iHL | bit_5_A | bit_6_B | bit_6_C
      | bit_6_D | bit_6_E | bit_6_H | bit_6_L | bit_6_iHL | bit_6_A | bit_7_B | bit_7_C | bit_7_D | bit_7_E
      | bit_7_H | bit_7_L | bit_7_iHL | bit_7_A =>
    exact completes_of_quiet (quiet_setFlags s _ _ _ _) rfl rfl

end Sys2Proof.Laws
end

