-- ==== Sys2Proof/Laws/PerInstr.lean ====
section
/-! SUPPORT. The facts that are stated once per instruction: the lengths of R90 and R98. -/

/-- `byte_length` counts one byte for the key and each operand byte, and the length in memory is that of the encoding, at most
three bytes (R90, R98, R106). -/
def Sys2Proof.Laws.EncodedLength.Statement (i : Sys2Proof.Instr) : Prop :=
  i.byteLength = 1 + i.operands.length ∧ i.length = (Sys2Proof.encode i).length ∧ i.length ≤ 3

namespace Sys2Proof.Laws.EncodedLength

open Sys2Proof

theorem ld_BC_n16 (n : Word) : Statement (.ld_BC_n16 n) := ⟨rfl, rfl, Nat.le_of_ble_eq_true rfl⟩
theorem ld_B_n8 (n : Byte) : Statement (.ld_B_n8 n) := ⟨rfl, rfl, Nat.le_of_ble_eq_true rfl⟩
theorem ld_ia16_SP (a : Word) : Statement (.ld_ia16_SP a) := ⟨rfl, rfl, Nat.le_of_ble_eq_true rfl⟩
theorem ld_C_n8 (n : Byte) : Statement (.ld_C_n8 n) := ⟨rfl, rfl, Nat.le_of_ble_eq_true rfl⟩
theorem stop (n : Byte) : Statement (.stop n) := ⟨rfl, rfl, Nat.le_of_ble_eq_true rfl⟩
theorem ld_DE_n16 (n : Word) : Statement (.ld_DE_n16 n) := ⟨rfl, rfl, Nat.le_of_ble_eq_true rfl⟩
theorem ld_D_n8 (n : Byte) : Statement (.ld_D_n8 n) := ⟨rfl, rfl, Nat.le_of_ble_eq_true rfl⟩
theorem jr_e8 (e : Byte) : Statement (.jr_e8 e) := ⟨rfl, rfl, Nat.le_of_ble_eq_true rfl⟩
theorem ld_E_n8 (n : Byte) : Statement (.ld_E_n8 n) := ⟨rfl, rfl, Nat.le_of_ble_eq_true rfl⟩
theorem jr_NZ_e8 (e : Byte) : Statement (.jr_NZ_e8 e) := ⟨rfl, rfl, Nat.le_of_ble_eq_true rfl⟩
theorem ld_HL_n16 (n : Word) : Statement (.ld_HL_n16 n) := ⟨rfl, rfl, Nat.le_of_ble_eq_true rfl⟩
theorem ld_H_n8 (n : Byte) : Statement (.ld_H_n8 n) := ⟨rfl, rfl, Nat.le_of_ble_eq_true rfl⟩
theorem jr_Z_e8 (e : Byte) : Statement (.jr_Z_e8 e) := ⟨rfl, rfl, Nat.le_of_ble_eq_true rfl⟩
theorem ld_L_n8 (n : Byte) : Statement (.ld_L_n8 n) := ⟨rfl, rfl, Nat.le_of_ble_eq_true rfl⟩
theorem jr_NC_e8 (e : Byte) : Statement (.jr_NC_e8 e) := ⟨rfl, rfl, Nat.le_of_ble_eq_true rfl⟩
theorem ld_SP_n16 (n : Word) : Statement (.ld_SP_n16 n) := ⟨rfl, rfl, Nat.le_of_ble_eq_true rfl⟩
theorem ld_iHL_n8 (n : Byte) : Statement (.ld_iHL_n8 n) := ⟨rfl, rfl, Nat.le_of_ble_eq_true rfl⟩
theorem jr_C_e8 (e : Byte) : Statement (.jr_C_e8 e) := ⟨rfl, rfl, Nat.le_of_ble_eq_true rfl⟩
theorem ld_A_n8 (n : Byte) : Statement (.ld_A_n8 n) := ⟨rfl, rfl, Nat.le_of_ble_eq_true rfl⟩
theorem jp_NZ_a16 (a : Word) : Statement (.jp_NZ_a16 a) := ⟨rfl, rfl, Nat.le_of_ble_eq_true rfl⟩
theorem jp_a16 (a : Word) : Statement (.jp_a16 a) := ⟨rfl, rfl, Nat.le_of_ble_eq_true rfl⟩
theorem call_NZ_a16 (a : Word) : Statement (.call_NZ_a16 a) := ⟨rfl, rfl, Nat.le_of_ble_eq_true rfl⟩
theorem add_A_n8 (n : Byte) : Statement (.add_A_n8 n) := ⟨rfl, rfl, Nat.le_of_ble_eq_true rfl⟩
theorem jp_Z_a16 (a : Word) : Statement (.jp_Z_a16 a) := ⟨rfl, rfl, Nat.le_of_ble_eq_true rfl⟩
theorem call_Z_a16 (a : Word) : Statement (.call_Z_a16 a) := ⟨rfl, rfl, Nat.le_of_ble_eq_true rfl⟩
theorem call_a16 (a : Word) : Statement (.call_a16 a) := ⟨rfl, rfl, Nat.le_of_ble_eq_true rfl⟩
theorem adc_A_n8 (n : Byte) : Statement (.adc_A_n8 n) := ⟨rfl, rfl, Nat.le_of_ble_eq_true rfl⟩
theorem jp_NC_a16 (a : Word) : Statement (.jp_NC_a16 a) := ⟨rfl, rfl, Nat.le_of_ble_eq_true rfl⟩
theorem undefinedKey (key : Byte) : Statement (.undefinedKey key) := ⟨rfl, rfl, Nat.le_of_ble_eq_true rfl⟩
theorem call_NC_a16 (a : Word) : Statement (.call_NC_a16 a) := ⟨rfl, rfl, Nat.le_of_ble_eq_true rfl⟩
theorem sub_A_n8 (n : Byte) : Statement (.sub_A_n8 n) := ⟨rfl, rfl, Nat.le_of_ble_eq_true rfl⟩
theorem jp_C_a16 (a : Word) : Statement (.jp_C_a16 a) := ⟨rfl, rfl, Nat.le_of_ble_eq_true rfl⟩
theorem call_C_a16 (a : Word) : Statement (.call_C_a16 a) := ⟨rfl, rfl, Nat.le_of_ble_eq_true rfl⟩
theorem sbc_A_n8 (n : Byte) : Statement (.sbc_A_n8 n) := ⟨rfl, rfl, Nat.le_of_ble_eq_true rfl⟩
theorem ldh_ia8_A (a : Byte) : Statement (.ldh_ia8_A a) := ⟨rfl, rfl, Nat.le_of_ble_eq_true rfl⟩
theorem and_A_n8 (n : Byte) : Statement (.and_A_n8 n) := ⟨rfl, rfl, Nat.le_of_ble_eq_true rfl⟩
theorem add_SP_e8 (e : Byte) : Statement (.add_SP_e8 e) := ⟨rfl, rfl, Nat.le_of_ble_eq_true rfl⟩
theorem ld_ia16_A (a : Word) : Statement (.ld_ia16_A a) := ⟨rfl, rfl, Nat.le_of_ble_eq_true rfl⟩
theorem escape_ED (xx : Byte) : Statement (.escape_ED xx) := ⟨rfl, rfl, Nat.le_of_ble_eq_true rfl⟩
theorem xor_A_n8 (n : Byte) : Statement (.xor_A_n8 n) := ⟨rfl, rfl, Nat.le_of_ble_eq_true rfl⟩
theorem ldh_A_ia8 (a : Byte) : Statement (.ldh_A_ia8 a) := ⟨rfl, rfl, Nat.le_of_ble_eq_true rfl⟩
theorem or_A_n8 (n : Byte) : Statement (.or_A_n8 n) := ⟨rfl, rfl, Nat.le_of_ble_eq_true rfl⟩
theorem ld_HL_SPe8 (e : Byte) : Statement (.ld_HL_SPe8 e) := ⟨rfl, rfl, Nat.le_of_ble_eq_true rfl⟩
theorem ld_A_ia16 (a : Word) : Statement (.ld_A_ia16 a) := ⟨rfl, rfl, Nat.le_of_ble_eq_true rfl⟩
theorem cp_A_n8 (n : Byte) : Statement (.cp_A_n8 n) := ⟨rfl, rfl, Nat.le_of_ble_eq_true rfl⟩
theorem nop : Statement .nop := ⟨rfl, rfl, Nat.le_of_ble_eq_true rfl⟩
theorem ld_iBC_A : Statement .ld_iBC_A := ⟨rfl, rfl, Nat.le_of_ble_eq_true rfl⟩
theorem inc_BC : Statement .inc_BC := ⟨rfl, rfl, Nat.le_of_ble_eq_true rfl⟩
theorem inc_B : Statement .inc_B := ⟨rfl, rfl, Nat.le_of_ble_eq_true rfl⟩
theorem dec_B : Statement .dec_B := ⟨rfl, rfl, Nat.le_of_ble_eq_true rfl⟩
theorem rlca : Statement .rlca := ⟨rfl, rfl, Nat.le_of_ble_eq_true rfl⟩
theorem add_HL_BC : Statement .add_HL_BC := ⟨rfl, rfl, Nat.le_of_ble_eq_true rfl⟩
theorem ld_A_iBC : Statement .ld_A_iBC := ⟨rfl, rfl, Nat.le_of_ble_eq_true rfl⟩
theorem dec_BC : Statement .dec_BC := ⟨rfl, rfl, Nat.le_of_ble_eq_true rfl⟩
theorem inc_C : Statement .inc_C := ⟨rfl, rfl, Nat.le_of_ble_eq_true rfl⟩
theorem dec_C : Statement .dec_C := ⟨rfl, rfl, Nat.le_of_ble_eq_true rfl⟩
theorem rrca : Statement .rrca := ⟨rfl, rfl, Nat.le_of_ble_eq_true rfl⟩
theorem ld_iDE_A : Statement .ld_iDE_A := ⟨rfl, rfl, Nat.le_of_ble_eq_true rfl⟩
theorem inc_DE : Statement .inc_DE := ⟨rfl, rfl, Nat.le_of_ble_eq_true rfl⟩
theorem inc_D : Statement .inc_D := ⟨rfl, rfl, Nat.le_of_ble_eq_true rfl⟩
theorem dec_D : Statement .dec_D := ⟨rfl, rfl, Nat.le_of_ble_eq_true rfl⟩
theorem rla : Statement .rla := ⟨rfl, rfl, Nat.le_of_ble_eq_true rfl⟩
theorem add_HL_DE : Statement .add_HL_DE := ⟨rfl, rfl, Nat.le_of_ble_eq_true rfl⟩
theorem ld_A_iDE : Statement .ld_A_iDE := ⟨rfl, rfl, Nat.le_of_ble_eq_true rfl⟩
theorem dec_DE : Statement .dec_DE := ⟨rfl, rfl, Nat.le_of_ble_eq_true rfl⟩
theorem inc_E : Statement .inc_E := ⟨rfl, rfl, Nat.le_of_ble_eq_true rfl⟩
theorem dec_E : Statement .dec_E := ⟨rfl, rfl, Nat.le_of_ble_eq_true rfl⟩
theorem rra : Statement .rra := ⟨rfl, rfl, Nat.le_of_ble_eq_true rfl⟩
theorem ld_iHLinc_A : Statement .ld_iHLinc_A := ⟨rfl, rfl, Nat.le_of_ble_eq_true rfl⟩
theorem inc_HL : Statement .inc_HL := ⟨rfl, rfl, Nat.le_of_ble_eq_true rfl⟩
theorem inc_H : Statement .inc_H := ⟨rfl, rfl, Nat.le_of_ble_eq_true rfl⟩
theorem dec_H : Statement .dec_H := ⟨rfl, rfl, Nat.le_of_ble_eq_true rfl⟩
theorem daa : Statement .daa := ⟨rfl, rfl, Nat.le_of_ble_eq_true rfl⟩
theorem add_HL_HL : Statement .add_HL_HL := ⟨rfl, rfl, Nat.le_of_ble_eq_true rfl⟩
theorem ld_A_iHLinc : Statement .ld_A_iHLinc := ⟨rfl, rfl, Nat.le_of_ble_eq_true rfl⟩
theorem dec_HL : Statement .dec_HL := ⟨rfl, rfl, Nat.le_of_ble_eq_true rfl⟩
theorem inc_L : Statement .inc_L := ⟨rfl, rfl, Nat.le_of_ble_eq_true rfl⟩
theorem dec_L : Statement .dec_L := ⟨rfl, rfl, Nat.le_of_ble_eq_true rfl⟩
theorem cpl : Statement .cpl := ⟨rfl, rfl, Nat.le_of_ble_eq_true rfl⟩
theorem ld_iHLdec_A : Statement .ld_iHLdec_A := ⟨rfl, rfl, Nat.le_of_ble_eq_true rfl⟩
theorem inc_SP : Statement .inc_SP := ⟨rfl, rfl, Nat.le_of_ble_eq_true rfl⟩
theorem inc_iHL : Statement .inc_iHL := ⟨rfl, rfl, Nat.le_of_ble_eq_true rfl⟩
theorem dec_iHL : Statement .dec_iHL := ⟨rfl, rfl, Nat.le_of_ble_eq_true rfl⟩
theorem scf : Statement .scf := ⟨rfl, rfl, Nat.le_of_ble_eq_true rfl⟩
theorem add_HL_SP : Statement .add_HL_SP := ⟨rfl, rfl, Nat.le_of_ble_eq_true rfl⟩
theorem ld_A_iHLdec : Statement .ld_A_iHLdec := ⟨rfl, rfl, Nat.le_of_ble_eq_true rfl⟩
theorem dec_SP : Statement .dec_SP := ⟨rfl, rfl, Nat.le_of_ble_eq_true rfl⟩
theorem inc_A : Statement .inc_A := ⟨rfl, rfl, Nat.le_of_ble_eq_true rfl⟩
theorem dec_A : Statement .dec_A := ⟨rfl, rfl, Nat.le_of_ble_eq_true rfl⟩
theorem ccf : Statement .ccf := ⟨rfl, rfl, Nat.le_of_ble_eq_true rfl⟩
theorem ld_B_B : Statement .ld_B_B := ⟨rfl, rfl, Nat.le_of_ble_eq_true rfl⟩
theorem ld_B_C : Statement .ld_B_C := ⟨rfl, rfl, Nat.le_of_ble_eq_true rfl⟩
theorem ld_B_D : Statement .ld_B_D := ⟨rfl, rfl, Nat.le_of_ble_eq_true rfl⟩
theorem ld_B_E : Statement .ld_B_E := ⟨rfl, rfl, Nat.le_of_ble_eq_true rfl⟩
theorem ld_B_H : Statement .ld_B_H := ⟨rfl, rfl, Nat.le_of_ble_eq_true rfl⟩
theorem ld_B_L : Statement .ld_B_L := ⟨rfl, rfl, Nat.le_of_ble_eq_true rfl⟩
theorem ld_B_iHL : Statement .ld_B_iHL := ⟨rfl, rfl, Nat.le_of_ble_eq_true rfl⟩
theorem ld_B_A : Statement .ld_B_A := ⟨rfl, rfl, Nat.le_of_ble_eq_true rfl⟩
theorem ld_C_B : Statement .ld_C_B := ⟨rfl, rfl, Nat.le_of_ble_eq_true rfl⟩
theorem ld_C_C : Statement .ld_C_C := ⟨rfl, rfl, Nat.le_of_ble_eq_true rfl⟩
theorem ld_C_D : Statement .ld_C_D := ⟨rfl, rfl, Nat.le_of_ble_eq_true rfl⟩
theorem ld_C_E : Statement .ld_C_E := ⟨rfl, rfl, Nat.le_of_ble_eq_true rfl⟩
theorem ld_C_H : Statement .ld_C_H := ⟨rfl, rfl, Nat.le_of_ble_eq_true rfl⟩
theorem ld_C_L : Statement .ld_C_L := ⟨rfl, rfl, Nat.le_of_ble_eq_true rfl⟩
theorem ld_C_iHL : Statement .ld_C_iHL := ⟨rfl, rfl, Nat.le_of_ble_eq_true rfl⟩
theorem ld_C_A : Statement .ld_C_A := ⟨rfl, rfl, Nat.le_of_ble_eq_true rfl⟩
theorem ld_D_B : Statement .ld_D_B := ⟨rfl, rfl, Nat.le_of_ble_eq_true rfl⟩
theorem ld_D_C : Statement .ld_D_C := ⟨rfl, rfl, Nat.le_of_ble_eq_true rfl⟩
theorem ld_D_D : Statement .ld_D_D := ⟨rfl, rfl, Nat.le_of_ble_eq_true rfl⟩
theorem ld_D_E : Statement .ld_D_E := ⟨rfl, rfl, Nat.le_of_ble_eq_true rfl⟩
theorem ld_D_H : Statement .ld_D_H := ⟨rfl, rfl, Nat.le_of_ble_eq_true rfl⟩
theorem ld_D_L : Statement .ld_D_L := ⟨rfl, rfl, Nat.le_of_ble_eq_true rfl⟩
theorem ld_D_iHL : Statement .ld_D_iHL := ⟨rfl, rfl, Nat.le_of_ble_eq_true rfl⟩
theorem ld_D_A : Statement .ld_D_A := ⟨rfl, rfl, Nat.le_of_ble_eq_true rfl⟩
theorem ld_E_B : Statement .ld_E_B := ⟨rfl, rfl, Nat.le_of_ble_eq_true rfl⟩
theorem ld_E_C : Statement .ld_E_C := ⟨rfl, rfl, Nat.le_of_ble_eq_true rfl⟩
theorem ld_E_D : Statement .ld_E_D := ⟨rfl, rfl, Nat.le_of_ble_eq_true rfl⟩
theorem ld_E_E : Statement .ld_E_E := ⟨rfl, rfl, Nat.le_of_ble_eq_true rfl⟩
theorem ld_E_H : Statement .ld_E_H := ⟨rfl, rfl, Nat.le_of_ble_eq_true rfl⟩
theorem ld_E_L : Statement .ld_E_L := ⟨rfl, rfl, Nat.le_of_ble_eq_true rfl⟩
theorem ld_E_iHL : Statement .ld_E_iHL := ⟨rfl, rfl, Nat.le_of_ble_eq_true rfl⟩
theorem ld_E_A : Statement .ld_E_A := ⟨rfl, rfl, Nat.le_of_ble_eq_true rfl⟩
theorem ld_H_B : Statement .ld_H_B := ⟨rfl, rfl, Nat.le_of_ble_eq_true rfl⟩
theorem ld_H_C : Statement .ld_H_C := ⟨rfl, rfl, Nat.le_of_ble_eq_true rfl⟩
theorem ld_H_D : Statement .ld_H_D := ⟨rfl, rfl, Nat.le_of_ble_eq_true rfl⟩
theorem ld_H_E : Statement .ld_H_E := ⟨rfl, rfl, Nat.le_of_ble_eq_true rfl⟩
theorem ld_H_H : Statement .ld_H_H := ⟨rfl, rfl, Nat.le_of_ble_eq_true rfl⟩
theorem ld_H_L : Statement .ld_H_L := ⟨rfl, rfl, Nat.le_of_ble_eq_true rfl⟩
theorem ld_H_iHL : Statement .ld_H_iHL := ⟨rfl, rfl, Nat.le_of_ble_eq_true rfl⟩
theorem ld_H_A : Statement .ld_H_A := ⟨rfl, rfl, Nat.le_of_ble_eq_true rfl⟩
theorem ld_L_B : Statement .ld_L_B := ⟨rfl, rfl, Nat.le_of_ble_eq_true rfl⟩
theorem ld_L_C : Statement .ld_L_C := ⟨rfl, rfl, Nat.le_of_ble_eq_true rfl⟩
theorem ld_L_D : Statement .ld_L_D := ⟨rfl, rfl, Nat.le_of_ble_eq_true rfl⟩
theorem ld_L_E : Statement .ld_L_E := ⟨rfl, rfl, Nat.le_of_ble_eq_true rfl⟩
theorem ld_L_H : Statement .ld_L_H := ⟨rfl, rfl, Nat.le_of_ble_eq_true rfl⟩
theorem ld_L_L : Statement .ld_L_L := ⟨rfl, rfl, Nat.le_of_ble_eq_true rfl⟩
theorem ld_L_iHL : Statement .ld_L_iHL := ⟨rfl, rfl, Nat.le_of_ble_eq_true rfl⟩
theorem ld_L_A : Statement .ld_L_A := ⟨rfl, rfl, Nat.le_of_ble_eq_true rfl⟩
theorem ld_iHL_B : Statement .ld_iHL_B := ⟨rfl, rfl, Nat.le_of_ble_eq_true rfl⟩
theorem ld_iHL_C : Statement .ld_iHL_C := ⟨rfl, rfl, Nat.le_of_ble_eq_true rfl⟩
theorem ld_iHL_D : Statement .ld_iHL_D := ⟨rfl, rfl, Nat.le_of_ble_eq_true rfl⟩
theorem ld_iHL_E : Statement .ld_iHL_E := ⟨rfl, rfl, Nat.le_of_ble_eq_true rfl⟩
theorem ld_iHL_H : Statement .ld_iHL_H := ⟨rfl, rfl, Nat.le_of_ble_eq_true rfl⟩
theorem ld_iHL_L : Statement .ld_iHL_L := ⟨rfl, rfl, Nat.le_of_ble_eq_true rfl⟩
theorem halt : Statement .halt := ⟨rfl, rfl, Nat.le_of_ble_eq_true rfl⟩
theorem ld_iHL_A : Statement .ld_iHL_A := ⟨rfl, rfl, Nat.le_of_ble_eq_true rfl⟩
theorem ld_A_B : Statement .ld_A_B := ⟨rfl, rfl, Nat.le_of_ble_eq_true rfl⟩
theorem ld_A_C : Statement .ld_A_C := ⟨rfl, rfl, Nat.le_of_ble_eq_true rfl⟩
theorem ld_A_D : Statement .ld_A_D := ⟨rfl, rfl, Nat.le_of_ble_eq_true rfl⟩
theorem ld_A_E : Statement .ld_A_E := ⟨rfl, rfl, Nat.le_of_ble_eq_true rfl⟩
theorem ld_A_H : Statement .ld_A_H := ⟨rfl, rfl, Nat.le_of_ble_eq_true rfl⟩
theorem ld_A_L : Statement .ld_A_L := ⟨rfl, rfl, Nat.le_of_ble_eq_true rfl⟩
theorem ld_A_iHL : Statement .ld_A_iHL := ⟨rfl, rfl, Nat.le_of_ble_eq_true rfl⟩
theorem ld_A_A : Statement .ld_A_A := ⟨rfl, rfl, Nat.le_of_ble_eq_true rfl⟩
theorem add_A_B : Statement .add_A_B := ⟨rfl, rfl, Nat.le_of_ble_eq_true rfl⟩
theorem add_A_C : Statement .add_A_C := ⟨rfl, rfl, Nat.le_of_ble_eq_true rfl⟩
theorem add_A_D : Statement .add_A_D := ⟨rfl, rfl, Nat.le_of_ble_eq_true rfl⟩
theorem add_A_E : Statement .add_A_E := ⟨rfl, rfl, Nat.le_of_ble_eq_true rfl⟩
theorem add_A_H : Statement .add_A_H := ⟨rfl, rfl, Nat.le_of_ble_eq_true rfl⟩
theorem add_A_L : Statement .add_A_L := ⟨rfl, rfl, Nat.le_of_ble_eq_true rfl⟩
theorem add_A_iHL : Statement .add_A_iHL := ⟨rfl, rfl, Nat.le_of_ble_eq_true rfl⟩
theorem add_A_A : Statement .add_A_A := ⟨rfl, rfl, Nat.le_of_ble_eq_true rfl⟩
theorem adc_A_B : Statement .adc_A_B := ⟨rfl, rfl, Nat.le_of_ble_eq_true rfl⟩
theorem adc_A_C : Statement .adc_A_C := ⟨rfl, rfl, Nat.le_of_ble_eq_true rfl⟩
theorem adc_A_D : Statement .adc_A_D := ⟨rfl, rfl, Nat.le_of_ble_eq_true rfl⟩
theorem adc_A_E : Statement .adc_A_E := ⟨rfl, rfl, Nat.le_of_ble_eq_true rfl⟩
theorem adc_A_H : Statement .adc_A_H := ⟨rfl, rfl, Nat.le_of_ble_eq_true rfl⟩
theorem adc_A_L : Statement .adc_A_L := ⟨rfl, rfl, Nat.le_of_ble_eq_true rfl⟩
theorem adc_A_iHL : Statement .adc_A_iHL := ⟨rfl, rfl, Nat.le_of_ble_eq_true rfl⟩
theorem adc_A_A : Statement .adc_A_A := ⟨rfl, rfl, Nat.le_of_ble_eq_true rfl⟩
theorem sub_A_B : Statement .sub_A_B := ⟨rfl, rfl, Nat.le_of_ble_eq_true rfl⟩
theorem sub_A_C : Statement .sub_A_C := ⟨rfl, rfl, Nat.le_of_ble_eq_true rfl⟩
theorem sub_A_D : Statement .sub_A_D := ⟨rfl, rfl, Nat.le_of_ble_eq_true rfl⟩
theorem sub_A_E : Statement .sub_A_E := ⟨rfl, rfl, Nat.le_of_ble_eq_true rfl⟩
theorem sub_A_H : Statement .sub_A_H := ⟨rfl, rfl, Nat.le_of_ble_eq_true rfl⟩
theorem sub_A_L : Statement .sub_A_L := ⟨rfl, rfl, Nat.le_of_ble_eq_true rfl⟩
theorem sub_A_iHL : Statement .sub_A_iHL := ⟨rfl, rfl, Nat.le_of_ble_eq_true rfl⟩
theorem sub_A_A : Statement .sub_A_A := ⟨rfl, rfl, Nat.le_of_ble_eq_true rfl⟩
theorem sbc_A_B : Statement .sbc_A_B := ⟨rfl, rfl, Nat.le_of_ble_eq_true rfl⟩
theorem sbc_A_C : Statement .sbc_A_C := ⟨rfl, rfl, Nat.le_of_ble_eq_true rfl⟩
theorem sbc_A_D : Statement .sbc_A_D := ⟨rfl, rfl, Nat.le_of_ble_eq_true rfl⟩
theorem sbc_A_E : Statement .sbc_A_E := ⟨rfl, rfl, Nat.le_of_ble_eq_true rfl⟩
theorem sbc_A_H : Statement .sbc_A_H := ⟨rfl, rfl, Nat.le_of_ble_eq_true rfl⟩
theorem sbc_A_L : Statement .sbc_A_L := ⟨rfl, rfl, Nat.le_of_ble_eq_true rfl⟩
theorem sbc_A_iHL : Statement .sbc_A_iHL := ⟨rfl, rfl, Nat.le_of_ble_eq_true rfl⟩
theorem sbc_A_A : Statement .sbc_A_A := ⟨rfl, rfl, Nat.le_of_ble_eq_true rfl⟩
theorem and_A_B : Statement .and_A_B := ⟨rfl, rfl, Nat.le_of_ble_eq_true rfl⟩
theorem and_A_C : Statement .and_A_C := ⟨rfl, rfl, Nat.le_of_ble_eq_true rfl⟩
theorem and_A_D : Statement .and_A_D := ⟨rfl, rfl, Nat.le_of_ble_eq_true rfl⟩
theorem and_A_E : Statement .and_A_E := ⟨rfl, rfl, Nat.le_of_ble_eq_true rfl⟩
theorem and_A_H : Statement .and_A_H := ⟨rfl, rfl, Nat.le_of_ble_eq_true rfl⟩
theorem and_A_L : Statement .and_A_L := ⟨rfl, rfl, Nat.le_of_ble_eq_true rfl⟩
theorem and_A_iHL : Statement .and_A_iHL := ⟨rfl, rfl, Nat.le_of_ble_eq_true rfl⟩
theorem and_A_A : Statement .and_A_A := ⟨rfl, rfl, Nat.le_of_ble_eq_true rfl⟩
theorem xor_A_B : Statement .xor_A_B := ⟨rfl, rfl, Nat.le_of_ble_eq_true rfl⟩
theorem xor_A_C : Statement .xor_A_C := ⟨rfl, rfl, Nat.le_of_ble_eq_true rfl⟩
theorem xor_A_D : Statement .xor_A_D := ⟨rfl, rfl, Nat.le_of_ble_eq_true rfl⟩
theorem xor_A_E : Statement .xor_A_E := ⟨rfl, rfl, Nat.le_of_ble_eq_true rfl⟩
theorem xor_A_H : Statement .xor_A_H := ⟨rfl, rfl, Nat.le_of_ble_eq_true rfl⟩
theorem xor_A_L : Statement .xor_A_L := ⟨rfl, rfl, Nat.le_of_ble_eq_true rfl⟩
theorem xor_A_iHL : Statement .xor_A_iHL := ⟨rfl, rfl, Nat.le_of_ble_eq_true rfl⟩
theorem xor_A_A : Statement .xor_A_A := ⟨rfl, rfl, Nat.le_of_ble_eq_true rfl⟩
theorem or_A_B : Statement .or_A_B := ⟨rfl, rfl, Nat.le_of_ble_eq_true rfl⟩
theorem or_A_C : Statement .or_A_C := ⟨rfl, rfl, Nat.le_of_ble_eq_true rfl⟩
theorem or_A_D : Statement .or_A_D := ⟨rfl, rfl, Nat.le_of_ble_eq_true rfl⟩
theorem or_A_E : Statement .or_A_E := ⟨rfl, rfl, Nat.le_of_ble_eq_true rfl⟩
theorem or_A_H : Statement .or_A_H := ⟨rfl, rfl, Nat.le_of_ble_eq_true rfl⟩
theorem or_A_L : Statement .or_A_L := ⟨rfl, rfl, Nat.le_of_ble_eq_true rfl⟩
theorem or_A_iHL : Statement .or_A_iHL := ⟨rfl, rfl, Nat.le_of_ble_eq_true rfl⟩
theorem or_A_A : Statement .or_A_A := ⟨rfl, rfl, Nat.le_of_ble_eq_true rfl⟩
theorem cp_A_B : Statement .cp_A_B := ⟨rfl, rfl, Nat.le_of_ble_eq_true rfl⟩
theorem cp_A_C : Statement .cp_A_C := ⟨rfl, rfl, Nat.le_of_ble_eq_true rfl⟩
theorem cp_A_D : Statement .cp_A_D := ⟨rfl, rfl, Nat.le_of_ble_eq_true rfl⟩
theorem cp_A_E : Statement .cp_A_E := ⟨rfl, rfl, Nat.le_of_ble_eq_true rfl⟩
theorem cp_A_H : Statement .cp_A_H := ⟨rfl, rfl, Nat.le_of_ble_eq_true rfl⟩
theorem cp_A_L : Statement .cp_A_L := ⟨rfl, rfl, Nat.le_of_ble_eq_true rfl⟩
theorem cp_A_iHL : Statement .cp_A_iHL := ⟨rfl, rfl, Nat.le_of_ble_eq_true rfl⟩
theorem cp_A_A : Statement .cp_A_A := ⟨rfl, rfl, Nat.le_of_ble_eq_true rfl⟩
theorem ret_NZ : Statement .ret_NZ := ⟨rfl, rfl, Nat.le_of_ble_eq_true rfl⟩
theorem pop_BC : Statement .pop_BC := ⟨rfl, rfl, Nat.le_of_ble_eq_true rfl⟩
theorem push_BC : Statement .push_BC := ⟨rfl, rfl, Nat.le_of_ble_eq_true rfl⟩
theorem rst_00 : Statement .rst_00 := ⟨rfl, rfl, Nat.le_of_ble_eq_true rfl⟩
theorem ret_Z : Statement .ret_Z := ⟨rfl, rfl, Nat.le_of_ble_eq_true rfl⟩
theorem ret : Statement .ret := ⟨rfl, rfl, Nat.le_of_ble_eq_true rfl⟩
theorem rst_08 : Statement .rst_08 := ⟨rfl, rfl, Nat.le_of_ble_eq_true rfl⟩
theorem ret_NC : Statement .ret_NC := ⟨rfl, rfl, Nat.le_of_ble_eq_true rfl⟩
theorem pop_DE : Statement .pop_DE := ⟨rfl, rfl, Nat.le_of_ble_eq_true rfl⟩
theorem push_DE : Statement .push_DE := ⟨rfl, rfl, Nat.le_of_ble_eq_true rfl⟩
theorem rst_10 : Statement .rst_10 := ⟨rfl, rfl, Nat.le_of_ble_eq_true rfl⟩
theorem ret_C : Statement .ret_C := ⟨rfl, rfl, Nat.le_of_ble_eq_true rfl⟩
theorem reti : Statement .reti := ⟨rfl, rfl, Nat.le_of_ble_eq_true rfl⟩
theorem rst_18 : Statement .rst_18 := ⟨rfl, rfl, Nat.le_of_ble_eq_true rfl⟩
theorem pop_HL : Statement .pop_HL := ⟨rfl, rfl, Nat.le_of_ble_eq_true rfl⟩
theorem ld_iC_A : Statement .ld_iC_A := ⟨rfl, rfl, Nat.le_of_ble_eq_true rfl⟩
theorem push_HL : Statement .push_HL := ⟨rfl, rfl, Nat.le_of_ble_eq_true rfl⟩
theorem rst_20 : Statement .rst_20 := ⟨rfl, rfl, Nat.le_of_ble_eq_true rfl⟩
theorem jp_HL : Statement .jp_HL := ⟨rfl, rfl, Nat.le_of_ble_eq_true rfl⟩
theorem rst_28 : Statement .rst_28 := ⟨rfl, rfl, Nat.le_of_ble_eq_true rfl⟩
theorem pop_AF : Statement .pop_AF := ⟨rfl, rfl, Nat.le_of_ble_eq_true rfl⟩
theorem ld_A_iC : Statement .ld_A_iC := ⟨rfl, rfl, Nat.le_of_ble_eq_true rfl⟩
theorem di : Statement .di := ⟨rfl, rfl, Nat.le_of_ble_eq_true rfl⟩
theorem push_AF : Statement .push_AF := ⟨rfl, rfl, Nat.le_of_ble_eq_true rfl⟩
theorem rst_30 : Statement .rst_30 := ⟨rfl, rfl, Nat.le_of_ble_eq_true rfl⟩
theorem ld_SP_HL : Statement .ld_SP_HL := ⟨rfl, rfl, Nat.le_of_ble_eq_true rfl⟩
theorem ei : Statement .ei := ⟨rfl, rfl, Nat.le_of_ble_eq_true rfl⟩
theorem rst_38 : Statement .rst_38 := ⟨rfl, rfl, Nat.le_of_ble_eq_true rfl⟩
theorem rlc_B : Statement .rlc_B := ⟨rfl, rfl, Nat.le_of_ble_eq_true rfl⟩
theorem rlc_C : Statement .rlc_C := ⟨rfl, rfl, Nat.le_of_ble_eq_true rfl⟩
theorem rlc_D : Statement .rlc_D := ⟨rfl, rfl, Nat.le_of_ble_eq_true rfl⟩
theorem rlc_E : Statement .rlc_E := ⟨rfl, rfl, Nat.le_of_ble_eq_true rfl⟩
theorem rlc_H : Statement .rlc_H := ⟨rfl, rfl, Nat.le_of_ble_eq_true rfl⟩
theorem rlc_L : Statement .rlc_L := ⟨rfl, rfl, Nat.le_of_ble_eq_true rfl⟩
theorem rlc_iHL : Statement .rlc_iHL := ⟨rfl, rfl, Nat.le_of_ble_eq_true rfl⟩
theorem rlc_A : Statement .rlc_A := ⟨rfl, rfl, Nat.le_of_ble_eq_true rfl⟩
theorem rrc_B : Statement .rrc_B := ⟨rfl, rfl, Nat.le_of_ble_eq_true rfl⟩
theorem rrc_C : Statement .rrc_C := ⟨rfl, rfl, Nat.le_of_ble_eq_true rfl⟩
theorem rrc_D : Statement .rrc_D := ⟨rfl, rfl, Nat.le_of_ble_eq_true rfl⟩
theorem rrc_E : Statement .rrc_E := ⟨rfl, rfl, Nat.le_of_ble_eq_true rfl⟩
theorem rrc_H : Statement .rrc_H := ⟨rfl, rfl, Nat.le_of_ble_eq_true rfl⟩
theorem rrc_L : Statement .rrc_L := ⟨rfl, rfl, Nat.le_of_ble_eq_true rfl⟩
theorem rrc_iHL : Statement .rrc_iHL := ⟨rfl, rfl, Nat.le_of_ble_eq_true rfl⟩
theorem rrc_A : Statement .rrc_A := ⟨rfl, rfl, Nat.le_of_ble_eq_true rfl⟩
theorem rl_B : Statement .rl_B := ⟨rfl, rfl, Nat.le_of_ble_eq_true rfl⟩
theorem rl_C : Statement .rl_C := ⟨rfl, rfl, Nat.le_of_ble_eq_true rfl⟩
theorem rl_D : Statement .rl_D := ⟨rfl, rfl, Nat.le_of_ble_eq_true rfl⟩
theorem rl_E : Statement .rl_E := ⟨rfl, rfl, Nat.le_of_ble_eq_true rfl⟩
theorem rl_H : Statement .rl_H := ⟨rfl, rfl, Nat.le_of_ble_eq_true rfl⟩
theorem rl_L : Statement .rl_L := ⟨rfl, rfl, Nat.le_of_ble_eq_true rfl⟩
theorem rl_iHL : Statement .rl_iHL := ⟨rfl, rfl, Nat.le_of_ble_eq_true rfl⟩
theorem rl_A : Statement .rl_A := ⟨rfl, rfl, Nat.le_of_ble_eq_true rfl⟩
theorem rr_B : Statement .rr_B := ⟨rfl, rfl, Nat.le_of_ble_eq_true rfl⟩
theorem rr_C : Statement .rr_C := ⟨rfl, rfl, Nat.le_of_ble_eq_true rfl⟩
theorem rr_D : Statement .rr_D := ⟨rfl, rfl, Nat.le_of_ble_eq_true rfl⟩
theorem rr_E : Statement .rr_E := ⟨rfl, rfl, Nat.le_of_ble_eq_true rfl⟩
theorem rr_H : Statement .rr_H := ⟨rfl, rfl, Nat.le_of_ble_eq_true rfl⟩
theorem rr_L : Statement .rr_L := ⟨rfl, rfl, Nat.le_of_ble_eq_true rfl⟩
theorem rr_iHL : Statement .rr_iHL := ⟨rfl, rfl, Nat.le_of_ble_eq_true rfl⟩
theorem rr_A : Statement .rr_A := ⟨rfl, rfl, Nat.le_of_ble_eq_true rfl⟩
theorem sla_B : Statement .sla_B := ⟨rfl, rfl, Nat.le_of_ble_eq_true rfl⟩
theorem sla_C : Statement .sla_C := ⟨rfl, rfl, Nat.le_of_ble_eq_true rfl⟩
theorem sla_D : Statement .sla_D := ⟨rfl, rfl, Nat.le_of_ble_eq_true rfl⟩
theorem sla_E : Statement .sla_E := ⟨rfl, rfl, Nat.le_of_ble_eq_true rfl⟩
theorem sla_H : Statement .sla_H := ⟨rfl, rfl, Nat.le_of_ble_eq_true rfl⟩
theorem sla_L : Statement .sla_L := ⟨rfl, rfl, Nat.le_of_ble_eq_true rfl⟩
theorem sla_iHL : Statement .sla_iHL := ⟨rfl, rfl, Nat.le_of_ble_eq_true rfl⟩
theorem sla_A : Statement .sla_A := ⟨rfl, rfl, Nat.le_of_ble_eq_true rfl⟩
theorem sra_B : Statement .sra_B := ⟨rfl, rfl, Nat.le_of_ble_eq_true rfl⟩
theorem sra_C : Statement .sra_C := ⟨rfl, rfl, Nat.le_of_ble_eq_true rfl⟩
theorem sra_D : Statement .sra_D := ⟨rfl, rfl, Nat.le_of_ble_eq_true rfl⟩
theorem sra_E : Statement .sra_E := ⟨rfl, rfl, Nat.le_of_ble_eq_true rfl⟩
theorem sra_H : Statement .sra_H := ⟨rfl, rfl, Nat.le_of_ble_eq_true rfl⟩
theorem sra_L : Statement .sra_L := ⟨rfl, rfl, Nat.le_of_ble_eq_true rfl⟩
theorem sra_iHL : Statement .sra_iHL := ⟨rfl, rfl, Nat.le_of_ble_eq_true rfl⟩
theorem sra_A : Statement .sra_A := ⟨rfl, rfl, Nat.le_of_ble_eq_true rfl⟩
theorem swap_B : Statement .swap_B := ⟨rfl, rfl, Nat.le_of_ble_eq_true rfl⟩
theorem swap_C : Statement .swap_C := ⟨rfl, rfl, Nat.le_of_ble_eq_true rfl⟩
theorem swap_D : Statement .swap_D := ⟨rfl, rfl, Nat.le_of_ble_eq_true rfl⟩
theorem swap_E : Statement .swap_E := ⟨rfl, rfl, Nat.le_of_ble_eq_true rfl⟩
theorem swap_H : Statement .swap_H := ⟨rfl, rfl, Nat.le_of_ble_eq_true rfl⟩
theorem swap_L : Statement .swap_L := ⟨rfl, rfl, Nat.le_of_ble_eq_true rfl⟩
theorem swap_iHL : Statement .swap_iHL := ⟨rfl, rfl, Nat.le_of_ble_eq_true rfl⟩
theorem swap_A : Statement .swap_A := ⟨rfl, rfl, Nat.le_of_ble_eq_true rfl⟩
theorem srl_B : Statement .srl_B := ⟨rfl, rfl, Nat.le_of_ble_eq_true rfl⟩
theorem srl_C : Statement .srl_C := ⟨rfl, rfl, Nat.le_of_ble_eq_true rfl⟩
theorem srl_D : Statement .srl_D := ⟨rfl, rfl, Nat.le_of_ble_eq_true rfl⟩
theorem srl_E : Statement .srl_E := ⟨rfl, rfl, Nat.le_of_ble_eq_true rfl⟩
theorem srl_H : Statement .srl_H := ⟨rfl, rfl, Nat.le_of_ble_eq_true rfl⟩
theorem srl_L : Statement .srl_L := ⟨rfl, rfl, Nat.le_of_ble_eq_true rfl⟩
theorem srl_iHL : Statement .srl_iHL := ⟨rfl, rfl, Nat.le_of_ble_eq_true rfl⟩
theorem srl_A : Statement .srl_A := ⟨rfl, rfl, Nat.le_of_ble_eq_true rfl⟩
theorem bit_0_B : Statement .bit_0_B := ⟨rfl, rfl, Nat.le_of_ble_eq_true rfl⟩
theorem bit_0_C : Statement .bit_0_C := ⟨rfl, rfl, Nat.le_of_ble_eq_true rfl⟩
theorem bit_0_D : Statement .bit_0_D := ⟨rfl, rfl, Nat.le_of_ble_eq_true rfl⟩
theorem bit_0_E : Statement .bit_0_E := ⟨rfl, rfl, Nat.le_of_ble_eq_true rfl⟩
theorem bit_0_H : Statement .bit_0_H := ⟨rfl, rfl, Nat.le_of_ble_eq_true rfl⟩
theorem bit_0_L : Statement .bit_0_L := ⟨rfl, rfl, Nat.le_of_ble_eq_true rfl⟩
theorem bit_0_iHL : Statement .bit_0_iHL := ⟨rfl, rfl, Nat.le_of_ble_eq_true rfl⟩
theorem bit_0_A : Statement .bit_0_A := ⟨rfl, rfl, Nat.le_of_ble_eq_true rfl⟩
theorem bit_1_B : Statement .bit_1_B := ⟨rfl, rfl, Nat.le_of_ble_eq_true rfl⟩
theorem bit_1_C : Statement .bit_1_C := ⟨rfl, rfl, Nat.le_of_ble_eq_true rfl⟩
theorem bit_1_D : Statement .bit_1_D := ⟨rfl, rfl, Nat.le_of_ble_eq_true rfl⟩
theorem bit_1_E : Statement .bit_1_E := ⟨rfl, rfl, Nat.le_of_ble_eq_true rfl⟩
theorem bit_1_H : Statement .bit_1_H := ⟨rfl, rfl, Nat.le_of_ble_eq_true rfl⟩
theorem bit_1_L : Statement .bit_1_L := ⟨rfl, rfl, Nat.le_of_ble_eq_true rfl⟩
theorem bit_1_iHL : Statement .bit_1_iHL := ⟨rfl, rfl, Nat.le_of_ble_eq_true rfl⟩
theorem bit_1_A : Statement .bit_1_A := ⟨rfl, rfl, Nat.le_of_ble_eq_true rfl⟩
theorem bit_2_B : Statement .bit_2_B := ⟨rfl, rfl, Nat.le_of_ble_eq_true rfl⟩
theorem bit_2_C : Statement .bit_2_C := ⟨rfl, rfl, Nat.le_of_ble_eq_true rfl⟩
theorem bit_2_D : Statement .bit_2_D := ⟨rfl, rfl, Nat.le_of_ble_eq_true rfl⟩
theorem bit_2_E : Statement .bit_2_E := ⟨rfl, rfl, Nat.le_of_ble_eq_true rfl⟩
theorem bit_2_H : Statement .bit_2_H := ⟨rfl, rfl, Nat.le_of_ble_eq_true rfl⟩
theorem bit_2_L : Statement .bit_2_L := ⟨rfl, rfl, Nat.le_of_ble_eq_true rfl⟩
theorem bit_2_iHL : Statement .bit_2_iHL := ⟨rfl, rfl, Nat.le_of_ble_eq_true rfl⟩
theorem bit_2_A : Statement .bit_2_A := ⟨rfl, rfl, Nat.le_of_ble_eq_true rfl⟩
theorem bit_3_B : Statement .bit_3_B := ⟨rfl, rfl, Nat.le_of_ble_eq_true rfl⟩
theorem bit_3_C : Statement .bit_3_C := ⟨rfl, rfl, Nat.le_of_ble_eq_true rfl⟩
theorem bit_3_D : Statement .bit_3_D := ⟨rfl, rfl, Nat.le_of_ble_eq_true rfl⟩
theorem bit_3_E : Statement .bit_3_E := ⟨rfl, rfl, Nat.le_of_ble_eq_true rfl⟩
theorem bit_3_H : Statement .bit_3_H := ⟨rfl, rfl, Nat.le_of_ble_eq_true rfl⟩
theorem bit_3_L : Statement .bit_3_L := ⟨rfl, rfl, Nat.le_of_ble_eq_true rfl⟩
theorem bit_3_iHL : Statement .bit_3_iHL := ⟨rfl, rfl, Nat.le_of_ble_eq_true rfl⟩
theorem bit_3_A : Statement .bit_3_A := ⟨rfl, rfl, Nat.le_of_ble_eq_true rfl⟩
theorem bit_4_B : Statement .bit_4_B := ⟨rfl, rfl, Nat.le_of_ble_eq_true rfl⟩
theorem bit_4_C : Statement .bit_4_C := ⟨rfl, rfl, Nat.le_of_ble_eq_true rfl⟩
theorem bit_4_D : Statement .bit_4_D := ⟨rfl, rfl, Nat.le_of_ble_eq_true rfl⟩
theorem bit_4_E : Statement .bit_4_E := ⟨rfl, rfl, Nat.le_of_ble_eq_true rfl⟩
theorem bit_4_H : Statement .bit_4_H := ⟨rfl, rfl, Nat.le_of_ble_eq_true rfl⟩
theorem bit_4_L : Statement .bit_4_L := ⟨rfl, rfl, Nat.le_of_ble_eq_true rfl⟩
theorem bit_4_iHL : Statement .bit_4_iHL := ⟨rfl, rfl, Nat.le_of_ble_eq_true rfl⟩
theorem bit_4_A : Statement .bit_4_A := ⟨rfl, rfl, Nat.le_of_ble_eq_true rfl⟩
theorem bit_5_B : Statement .bit_5_B := ⟨rfl, rfl, Nat.le_of_ble_eq_true rfl⟩
theorem bit_5_C : Statement .bit_5_C := ⟨rfl, rfl, Nat.le_of_ble_eq_true rfl⟩
theorem bit_5_D : Statement .bit_5_D := ⟨rfl, rfl, Nat.le_of_ble_eq_true rfl⟩
theorem bit_5_E : Statement .bit_5_E := ⟨rfl, rfl, Nat.le_of_ble_eq_true rfl⟩
theorem bit_5_H : Statement .bit_5_H := ⟨rfl, rfl, Nat.le_of_ble_eq_true rfl⟩
theorem bit_5_L : Statement .bit_5_L := ⟨rfl, rfl, Nat.le_of_ble_eq_true rfl⟩
theorem bit_5_iHL : Statement .bit_5_iHL := ⟨rfl, rfl, Nat.le_of_ble_eq_true rfl⟩
theorem bit_5_A : Statement .bit_5_A := ⟨rfl, rfl, Nat.le_of_ble_eq_true rfl⟩
theorem bit_6_B : Statement .bit_6_B := ⟨rfl, rfl, Nat.le_of_ble_eq_true rfl⟩
theorem bit_6_C : Statement .bit_6_C := ⟨rfl, rfl, Nat.le_of_ble_eq_true rfl⟩
theorem bit_6_D : Statement .bit_6_D := ⟨rfl, rfl, Nat.le_of_ble_eq_true rfl⟩
theorem bit_6_E : Statement .bit_6_E := ⟨rfl, rfl, Nat.le_of_ble_eq_true rfl⟩
theorem bit_6_H : Statement .bit_6_H := ⟨rfl, rfl, Nat.le_of_ble_eq_true rfl⟩
theorem bit_6_L : Statement .bit_6_L := ⟨rfl, rfl, Nat.le_of_ble_eq_true rfl⟩
theorem bit_6_iHL : Statement .bit_6_iHL := ⟨rfl, rfl, Nat.le_of_ble_eq_true rfl⟩
theorem bit_6_A : Statement .bit_6_A := ⟨rfl, rfl, Nat.le_of_ble_eq_true rfl⟩
theorem bit_7_B : Statement .bit_7_B := ⟨rfl, rfl, Nat.le_of_ble_eq_true rfl⟩
theorem bit_7_C : Statement .bit_7_C := ⟨rfl, rfl, Nat.le_of_ble_eq_true rfl⟩
theorem bit_7_D : Statement .bit_7_D := ⟨rfl, rfl, Nat.le_of_ble_eq_true rfl⟩
theorem bit_7_E : Statement .bit_7_E := ⟨rfl, rfl, Nat.le_of_ble_eq_true rfl⟩
theorem bit_7_H : Statement .bit_7_H := ⟨rfl, rfl, Nat.le_of_ble_eq_true rfl⟩
theorem bit_7_L : Statement .bit_7_L := ⟨rfl, rfl, Nat.le_of_ble_eq_true rfl⟩
theorem bit_7_iHL : Statement .bit_7_iHL := ⟨rfl, rfl, Nat.le_of_ble_eq_true rfl⟩
theorem bit_7_A : Statement .bit_7_A := ⟨rfl, rfl, Nat.le_of_ble_eq_true rfl⟩
theorem res_0_B : Statement .res_0_B := ⟨rfl, rfl, Nat.le_of_ble_eq_true rfl⟩
theorem res_0_C : Statement .res_0_C := ⟨rfl, rfl, Nat.le_of_ble_eq_true rfl⟩
theorem res_0_D : Statement .res_0_D := ⟨rfl, rfl, Nat.le_of_ble_eq_true rfl⟩
theorem res_0_E : Statement .res_0_E := ⟨rfl, rfl, Nat.le_of_ble_eq_true rfl⟩
theorem res_0_H : Statement .res_0_H := ⟨rfl, rfl, Nat.le_of_ble_eq_true rfl⟩
theorem res_0_L : Statement .res_0_L := ⟨rfl, rfl, Nat.le_of_ble_eq_true rfl⟩
theorem res_0_iHL : Statement .res_0_iHL := ⟨rfl, rfl, Nat.le_of_ble_eq_true rfl⟩
theorem res_0_A : Statement .res_0_A := ⟨rfl, rfl, Nat.le_of_ble_eq_true rfl⟩
theorem res_1_B : Statement .res_1_B := ⟨rfl, rfl, Nat.le_of_ble_eq_true rfl⟩
theorem res_1_C : Statement .res_1_C := ⟨rfl, rfl, Nat.le_of_ble_eq_true rfl⟩
theorem res_1_D : Statement .res_1_D := ⟨rfl, rfl, Nat.le_of_ble_eq_true rfl⟩
theorem res_1_E : Statement .res_1_E := ⟨rfl, rfl, Nat.le_of_ble_eq_true rfl⟩
theorem res_1_H : Statement .res_1_H := ⟨rfl, rfl, Nat.le_of_ble_eq_true rfl⟩
theorem res_1_L : Statement .res_1_L := ⟨rfl, rfl, Nat.le_of_ble_eq_true rfl⟩
theorem res_1_iHL : Statement .res_1_iHL := ⟨rfl, rfl, Nat.le_of_ble_eq_true rfl⟩
theorem res_1_A : Statement .res_1_A := ⟨rfl, rfl, Nat.le_of_ble_eq_true rfl⟩
theorem res_2_B : Statement .res_2_B := ⟨rfl, rfl, Nat.le_of_ble_eq_true rfl⟩
theorem res_2_C : Statement .res_2_C := ⟨rfl, rfl, Nat.le_of_ble_eq_true rfl⟩
theorem res_2_D : Statement .res_2_D := ⟨rfl, rfl, Nat.le_of_ble_eq_true rfl⟩
theorem res_2_E : Statement .res_2_E := ⟨rfl, rfl, Nat.le_of_ble_eq_true rfl⟩
theorem res_2_H : Statement .res_2_H := ⟨rfl, rfl, Nat.le_of_ble_eq_true rfl⟩
theorem res_2_L : Statement .res_2_L := ⟨rfl, rfl, Nat.le_of_ble_eq_true rfl⟩
theorem res_2_iHL : Statement .res_2_iHL := ⟨rfl, rfl, Nat.le_of_ble_eq_true rfl⟩
theorem res_2_A : Statement .res_2_A := ⟨rfl, rfl, Nat.le_of_ble_eq_true rfl⟩
theorem res_3_B : Statement .res_3_B := ⟨rfl, rfl, Nat.le_of_ble_eq_true rfl⟩
theorem res_3_C : Statement .res_3_C := ⟨rfl, rfl, Nat.le_of_ble_eq_true rfl⟩
theorem res_3_D : Statement .res_3_D := ⟨rfl, rfl, Nat.le_of_ble_eq_true rfl⟩
theorem res_3_E : Statement .res_3_E := ⟨rfl, rfl, Nat.le_of_ble_eq_true rfl⟩
theorem res_3_H : Statement .res_3_H := ⟨rfl, rfl, Nat.le_of_ble_eq_true rfl⟩
theorem res_3_L : Statement .res_3_L := ⟨rfl, rfl, Nat.le_of_ble_eq_true rfl⟩
theorem res_3_iHL : Statement .res_3_iHL := ⟨rfl, rfl, Nat.le_of_ble_eq_true rfl⟩
theorem res_3_A : Statement .res_3_A := ⟨rfl, rfl, Nat.le_of_ble_eq_true rfl⟩
theorem res_4_B : Statement .res_4_B := ⟨rfl, rfl, Nat.le_of_ble_eq_true rfl⟩
theorem res_4_C : Statement .res_4_C := ⟨rfl, rfl, Nat.le_of_ble_eq_true rfl⟩
theorem res_4_D : Statement .res_4_D := ⟨rfl, rfl, Nat.le_of_ble_eq_true rfl⟩
theorem res_4_E : Statement .res_4_E := ⟨rfl, rfl, Nat.le_of_ble_eq_true rfl⟩
theorem res_4_H : Statement .res_4_H := ⟨rfl, rfl, Nat.le_of_ble_eq_true rfl⟩
theorem res_4_L : Statement .res_4_L := ⟨rfl, rfl, Nat.le_of_ble_eq_true rfl⟩
theorem res_4_iHL : Statement .res_4_iHL := ⟨rfl, rfl, Nat.le_of_ble_eq_true rfl⟩
theorem res_4_A : Statement .res_4_A := ⟨rfl, rfl, Nat.le_of_ble_eq_true rfl⟩
theorem res_5_B : Statement .res_5_B := ⟨rfl, rfl, Nat.le_of_ble_eq_true rfl⟩
theorem res_5_C : Statement .res_5_C := ⟨rfl, rfl, Nat.le_of_ble_eq_true rfl⟩
theorem res_5_D : Statement .res_5_D := ⟨rfl, rfl, Nat.le_of_ble_eq_true rfl⟩
theorem res_5_E : Statement .res_5_E := ⟨rfl, rfl, Nat.le_of_ble_eq_true rfl⟩
theorem res_5_H : Statement .res_5_H := ⟨rfl, rfl, Nat.le_of_ble_eq_true rfl⟩
theorem res_5_L : Statement .res_5_L := ⟨rfl, rfl, Nat.le_of_ble_eq_true rfl⟩
theorem res_5_iHL : Statement .res_5_iHL := ⟨rfl, rfl, Nat.le_of_ble_eq_true rfl⟩
theorem res_5_A : Statement .res_5_A := ⟨rfl, rfl, Nat.le_of_ble_eq_true rfl⟩
theorem res_6_B : Statement .res_6_B := ⟨rfl, rfl, Nat.le_of_ble_eq_true rfl⟩
theorem res_6_C : Statement .res_6_C := ⟨rfl, rfl, Nat.le_of_ble_eq_true rfl⟩
theorem res_6_D : Statement .res_6_D := ⟨rfl, rfl, Nat.le_of_ble_eq_true rfl⟩
theorem res_6_E : Statement .res_6_E := ⟨rfl, rfl, Nat.le_of_ble_eq_true rfl⟩
theorem res_6_H : Statement .res_6_H := ⟨rfl, rfl, Nat.le_of_ble_eq_true rfl⟩
theorem res_6_L : Statement .res_6_L := ⟨rfl, rfl, Nat.le_of_ble_eq_true rfl⟩
theorem res_6_iHL : Statement .res_6_iHL := ⟨rfl, rfl, Nat.le_of_ble_eq_true rfl⟩
theorem res_6_A : Statement .res_6_A := ⟨rfl, rfl, Nat.le_of_ble_eq_true rfl⟩
theorem res_7_B : Statement .res_7_B := ⟨rfl, rfl, Nat.le_of_ble_eq_true rfl⟩
theorem res_7_C : Statement .res_7_C := ⟨rfl, rfl, Nat.le_of_ble_eq_true rfl⟩
theorem res_7_D : Statement .res_7_D := ⟨rfl, rfl, Nat.le_of_ble_eq_true rfl⟩
theorem res_7_E : Statement .res_7_E := ⟨rfl, rfl, Nat.le_of_ble_eq_true rfl⟩
theorem res_7_H : Statement .res_7_H := ⟨rfl, rfl, Nat.le_of_ble_eq_true rfl⟩
theorem res_7_L : Statement .res_7_L := ⟨rfl, rfl, Nat.le_of_ble_eq_true rfl⟩
theorem res_7_iHL : Statement .res_7_iHL := ⟨rfl, rfl, Nat.le_of_ble_eq_true rfl⟩
theorem res_7_A : Statement .res_7_A := ⟨rfl, rfl, Nat.le_of_ble_eq_true rfl⟩
theorem set_0_B : Statement .set_0_B := ⟨rfl, rfl, Nat.le_of_ble_eq_true rfl⟩
theorem set_0_C : Statement .set_0_C := ⟨rfl, rfl, Nat.le_of_ble_eq_true rfl⟩
theorem set_0_D : Statement .set_0_D := ⟨rfl, rfl, Nat.le_of_ble_eq_true rfl⟩
theorem set_0_E : Statement .set_0_E := ⟨rfl, rfl, Nat.le_of_ble_eq_true rfl⟩
theorem set_0_H : Statement .set_0_H := ⟨rfl, rfl, Nat.le_of_ble_eq_true rfl⟩
theorem set_0_L : Statement .set_0_L := ⟨rfl, rfl, Nat.le_of_ble_eq_true rfl⟩
theorem set_0_iHL : Statement .set_0_iHL := ⟨rfl, rfl, Nat.le_of_ble_eq_true rfl⟩
theorem set_0_A : Statement .set_0_A := ⟨rfl, rfl, Nat.le_of_ble_eq_true rfl⟩
theorem set_1_B : Statement .set_1_B := ⟨rfl, rfl, Nat.le_of_ble_eq_true rfl⟩
theorem set_1_C : Statement .set_1_C := ⟨rfl, rfl, Nat.le_of_ble_eq_true rfl⟩
theorem set_1_D : Statement .set_1_D := ⟨rfl, rfl, Nat.le_of_ble_eq_true rfl⟩
theorem set_1_E : Statement .set_1_E := ⟨rfl, rfl, Nat.le_of_ble_eq_true rfl⟩
theorem set_1_H : Statement .set_1_H := ⟨rfl, rfl, Nat.le_of_ble_eq_true rfl⟩
theorem set_1_L : Statement .set_1_L := ⟨rfl, rfl, Nat.le_of_ble_eq_true rfl⟩
theorem set_1_iHL : Statement .set_1_iHL := ⟨rfl, rfl, Nat.le_of_ble_eq_true rfl⟩
theorem set_1_A : Statement .set_1_A := ⟨rfl, rfl, Nat.le_of_ble_eq_true rfl⟩
theorem set_2_B : Statement .set_2_B := ⟨rfl, rfl, Nat.le_of_ble_eq_true rfl⟩
theorem set_2_C : Statement .set_2_C := ⟨rfl, rfl, Nat.le_of_ble_eq_true rfl⟩
theorem set_2_D : Statement .set_2_D := ⟨rfl, rfl, Nat.le_of_ble_eq_true rfl⟩
theorem set_2_E : Statement .set_2_E := ⟨rfl, rfl, Nat.le_of_ble_eq_true rfl⟩
theorem set_2_H : Statement .set_2_H := ⟨rfl, rfl, Nat.le_of_ble_eq_true rfl⟩
theorem set_2_L : Statement .set_2_L := ⟨rfl, rfl, Nat.le_of_ble_eq_true rfl⟩
theorem set_2_iHL : Statement .set_2_iHL := ⟨rfl, rfl, Nat.le_of_ble_eq_true rfl⟩
theorem set_2_A : Statement .set_2_A := ⟨rfl, rfl, Nat.le_of_ble_eq_true rfl⟩
theorem set_3_B : Statement .set_3_B := ⟨rfl, rfl, Nat.le_of_ble_eq_true rfl⟩
theorem set_3_C : Statement .set_3_C := ⟨rfl, rfl, Nat.le_of_ble_eq_true rfl⟩
theorem set_3_D : Statement .set_3_D := ⟨rfl, rfl, Nat.le_of_ble_eq_true rfl⟩
theorem set_3_E : Statement .set_3_E := ⟨rfl, rfl, Nat.le_of_ble_eq_true rfl⟩
theorem set_3_H : Statement .set_3_H := ⟨rfl, rfl, Nat.le_of_ble_eq_true rfl⟩
theorem set_3_L : Statement .set_3_L := ⟨rfl, rfl, Nat.le_of_ble_eq_true rfl⟩
theorem set_3_iHL : Statement .set_3_iHL := ⟨rfl, rfl, Nat.le_of_ble_eq_true rfl⟩
theorem set_3_A : Statement .set_3_A := ⟨rfl, rfl, Nat.le_of_ble_eq_true rfl⟩
theorem set_4_B : Statement .set_4_B := ⟨rfl, rfl, Nat.le_of_ble_eq_true rfl⟩
theorem set_4_C : Statement .set_4_C := ⟨rfl, rfl, Nat.le_of_ble_eq_true rfl⟩
theorem set_4_D : Statement .set_4_D := ⟨rfl, rfl, Nat.le_of_ble_eq_true rfl⟩
theorem set_4_E : Statement .set_4_E := ⟨rfl, rfl, Nat.le_of_ble_eq_true rfl⟩
theorem set_4_H : Statement .set_4_H := ⟨rfl, rfl, Nat.le_of_ble_eq_true rfl⟩
theorem set_4_L : Statement .set_4_L := ⟨rfl, rfl, Nat.le_of_ble_eq_true rfl⟩
theorem set_4_iHL : Statement .set_4_iHL := ⟨rfl, rfl, Nat.le_of_ble_eq_true rfl⟩
theorem set_4_A : Statement .set_4_A := ⟨rfl, rfl, Nat.le_of_ble_eq_true rfl⟩
theorem set_5_B : Statement .set_5_B := ⟨rfl, rfl, Nat.le_of_ble_eq_true rfl⟩
theorem set_5_C : Statement .set_5_C := ⟨rfl, rfl, Nat.le_of_ble_eq_true rfl⟩
theorem set_5_D : Statement .set_5_D := ⟨rfl, rfl, Nat.le_of_ble_eq_true rfl⟩
theorem set_5_E : Statement .set_5_E := ⟨rfl, rfl, Nat.le_of_ble_eq_true rfl⟩
theorem set_5_H : Statement .set_5_H := ⟨rfl, rfl, Nat.le_of_ble_eq_true rfl⟩
theorem set_5_L : Statement .set_5_L := ⟨rfl, rfl, Nat.le_of_ble_eq_true rfl⟩
theorem set_5_iHL : Statement .set_5_iHL := ⟨rfl, rfl, Nat.le_of_ble_eq_true rfl⟩
theorem set_5_A : Statement .set_5_A := ⟨rfl, rfl, Nat.le_of_ble_eq_true rfl⟩
theorem set_6_B : Statement .set_6_B := ⟨rfl, rfl, Nat.le_of_ble_eq_true rfl⟩
theorem set_6_C : Statement .set_6_C := ⟨rfl, rfl, Nat.le_of_ble_eq_true rfl⟩
theorem set_6_D : Statement .set_6_D := ⟨rfl, rfl, Nat.le_of_ble_eq_true rfl⟩
theorem set_6_E : Statement .set_6_E := ⟨rfl, rfl, Nat.le_of_ble_eq_true rfl⟩
theorem set_6_H : Statement .set_6_H := ⟨rfl, rfl, Nat.le_of_ble_eq_true rfl⟩
theorem set_6_L : Statement .set_6_L := ⟨rfl, rfl, Nat.le_of_ble_eq_true rfl⟩
theorem set_6_iHL : Statement .set_6_iHL := ⟨rfl, rfl, Nat.le_of_ble_eq_true rfl⟩
theorem set_6_A : Statement .set_6_A := ⟨rfl, rfl, Nat.le_of_ble_eq_true rfl⟩
theorem set_7_B : Statement .set_7_B := ⟨rfl, rfl, Nat.le_of_ble_eq_true rfl⟩
theorem set_7_C : Statement .set_7_C := ⟨rfl, rfl, Nat.le_of_ble_eq_true rfl⟩
theorem set_7_D : Statement .set_7_D := ⟨rfl, rfl, Nat.le_of_ble_eq_true rfl⟩
theorem set_7_E : Statement .set_7_E := ⟨rfl, rfl, Nat.le_of_ble_eq_true rfl⟩
theorem set_7_H : Statement .set_7_H := ⟨rfl, rfl, Nat.le_of_ble_eq_true rfl⟩
theorem set_7_L : Statement .set_7_L := ⟨rfl, rfl, Nat.le_of_ble_eq_true rfl⟩
theorem set_7_iHL : Statement .set_7_iHL := ⟨rfl, rfl, Nat.le_of_ble_eq_true rfl⟩
theorem set_7_A : Statement .set_7_A := ⟨rfl, rfl, Nat.le_of_ble_eq_true rfl⟩

end Sys2Proof.Laws.EncodedLength
end

