-- ==== Sys2Proof/Laws/Step.lean ====
section
/-! SUPPORT. What a step can do, said once: the instruction at pc ran and retired, or the step entered a fatal error. -/

namespace Sys2Proof.Laws

open Sys2Proof Sys2Proof.Machine

/-- The operand read raises exactly where a 16-bit immediate starts at 0xFFFF (R95). -/
theorem operandRead_eq (i : Instr) (s : State) :
    operandRead i s =
      if i.operands.length = 2 ∧ s.regs.pc = 0xFFFF#16 then .error (.addressOutOfRange 0xFFFF) else .ok () := by
  simp only [operandRead, readWord_of_word]
  by_cases h : i.operands.length = 2 <;> by_cases hp : s.regs.pc = 0xFFFF#16 <;> simp only [h, hp, if_true, if_false,
    false_and, and_false, and_self]

@[simp] theorem retire_raise (i : Instr) (s : State) (e : FatalError) : retire i (s.raise e) = s.raise e := rfl

theorem retire_of_not_terminated {i : Instr} {s : State} (h : ∀ e, s.run ≠ .terminated e) : retire i s = retireNow i s := by
  unfold retire
  split
  · rename_i e he
    exact absurd he (h e)
  · rfl
  · rfl

/-- Retiring is the tick, the final advance of pc, and the count (R100 steps 6 to 8). -/
theorem retireNow_frame (i : Instr) (s : State) :
    (retireNow i s).mem = (tick s).mem ∧ (retireNow i s).queue = (tick s).queue ∧ (retireNow i s).run = s.run ∧
      (retireNow i s).retired = s.retired + 1 ∧ (retireNow i s).freeDraws = s.freeDraws ∧
      (retireNow i s).regs.f = s.regs.f ∧ (retireNow i s).regs.sp = s.regs.sp ∧
      (∀ r, (retireNow i s).reg8 r = s.reg8 r) ∧
      (retireNow i s).regs.pc = if i.ownsPc then s.regs.pc else s.regs.pc + BitVec.ofNat 16 (i.byteLength - 1) := by
  obtain ⟨hr, hrun, hret, hfd, -, -, -⟩ := tick_frame s
  have hf : (tick s).regs.f = s.regs.f := congrArg RegFile.f hr
  have hsp : (tick s).regs.sp = s.regs.sp := congrArg RegFile.sp hr
  have hpc : (tick s).regs.pc = s.regs.pc := congrArg RegFile.pc hr
  have hret' : (tick s).retired + 1 = s.retired + 1 := congrArg (· + 1) hret
  have h8 : ∀ r, (tick s).reg8 r = s.reg8 r := fun r => by cases r <;> simp only [State.reg8, hr]
  unfold retireNow
  cases i.ownsPc
  · refine ⟨rfl, rfl, hrun, hret', hfd, hf, hsp, fun r => ?_, ?_⟩
    · rw [← h8 r]
      cases r <;> rfl
    · simp only [State.setRetired, State.advancePc, State.setPc, hpc, Bool.false_eq_true, if_false]
  · refine ⟨rfl, rfl, hrun, hret', hfd, hf, hsp, fun r => ?_, hpc⟩
    rw [← h8 r]
    cases r <;> rfl

/-- The inversion of `step`. -/
theorem step_cases {s t : State} (h : step s = .next t) :
    s.run = .running ∧
      ((∃ u, exec (fetch s) (s.advancePc (fetch s).keyLength) = .next u ∧
          Ran (fetch s) (s.advancePc (fetch s).keyLength) u ∧ t = retireNow (fetch s) u) ∨
        ∃ e, CanRaise (fetch s) e ∧ t = (s.advancePc (fetch s).keyLength).raise e) := by
  unfold step at h
  split at h
  · cases h
  · cases h
  · rename_i hrun
    refine ⟨hrun, ?_⟩
    simp only [runInstr, operandRead_eq] at h
    split at h
    · rename_i e he
      split at he
      · cases he
        cases h
        exact .inr ⟨_, .inl rfl, rfl⟩
      · cases he
    · obtain ⟨u, hu, hc⟩ := exec_completes (fetch s) (s.advancePc (fetch s).keyLength)
      rw [hu] at h
      cases h
      rcases hc with hr | ⟨e, he, rfl⟩
      · refine .inl ⟨u, hu, hr, retire_of_not_terminated fun e he => ?_⟩
        have hr' := hr.run
        rw [he] at hr'
        split at hr'
        · cases hr'
        · rw [show (s.advancePc (fetch s).keyLength).run = s.run from rfl, hrun] at hr'
          cases hr'
      · exact .inr ⟨e, he, rfl⟩

/-! ## The render hook -/

/-- Entering a fatal error does not count the instruction (R100, R310). -/
@[simp] theorem raise_retired (s : State) (e : FatalError) : (s.raise e).retired = s.retired := rfl

/-- What a step that leaves `t` says of the render call. -/
theorem renderCallAt_of_next {s t : State} (period : Nat) (h : step s = .next t) :
    s.renderCallAt period = if t.retired = s.retired + 1 ∧ t.retired % period = 0 then some t.mem else none := by
  simp only [State.renderCallAt, h]

/-- Where no step is enabled nothing is called. -/
theorem renderCallAt_of_not_running {s : State} (period : Nat) (h : s.run ≠ .running) : s.renderCallAt period = none := by
  unfold State.renderCallAt
  split
  · rename_i t ht
    exact absurd (step_cases ht).1 h
  · rfl
  · rfl

end Sys2Proof.Laws
end

