-- ==== Sys2Proof/Tests/Slice0.lean ====
section
/-! SUPPORT. The model's own tests: ill-formed terms that WellFormed refuses, the decoding of every row of
spec/opcode_table.json from the word the table gives it, one step on small states with the values of
spec/95_test_vectors.md, and a witness for the hypotheses of every obligation. -/

namespace Sys2Proof.Tests

open Sys2Proof Sys2Proof.Machine

set_option maxRecDepth 100000

/-! ## WellFormed: each check and a term it refuses -/

theorem test_wf_refuses_key_with_entry : (Instr.undefinedKey 0x00#8).wf = false := by decide

theorem test_wf_refuses_escape_as_undefined : (Instr.undefinedKey 0xED#8).wf = false := by decide

theorem test_wf_refuses_plain_escape : (OpcodeKey.plain 0xCB#8).wf = false := by decide

theorem test_wf_refuses_extended_without_escape : (OpcodeKey.extended 0x00#8 0x40#8).wf = false := by decide

theorem test_wf_accepts : (Instr.undefinedKey 0xFD#8).wf = true ∧ (OpcodeKey.extended 0xCB#8 0x40#8).wf = true := by decide

/-! ## Decoding: every row of spec/opcode_table.json. A row is the three bytes from pc on and the instruction; an 8-bit operand
is 0x5A, a 16-bit one is 0x5A, 0xC3. -/

/-- Each row's bytes decode to its instruction, and its instruction encodes to a prefix of its bytes. -/
def decodesAll (rows : List (Byte × Byte × Byte × Instr)) : Bool :=
  rows.all fun r => decide (decodeBytes r.1 r.2.1 r.2.2.1 = r.2.2.2) && (encode r.2.2.2).isPrefixOf [r.1, r.2.1, r.2.2.1]

/-- Rows of spec/opcode_table.json, family system. -/
def words_system : List (Byte × Byte × Byte × Instr) :=
  [(0, 0, 0, .nop), (0x10, 0x5A, 0, .stop 0x5A), (0x76, 0, 0, .halt), (0xF3, 0, 0, .di), (0xFB, 0, 0, .ei)]

theorem test_words_system : decodesAll words_system = true := by decide

/-- Rows of spec/opcode_table.json, family load16. -/
def words_load16 : List (Byte × Byte × Byte × Instr) :=
  [(0x01, 0x5A, 0xC3, .ld_BC_n16 0xC35A), (0x08, 0x5A, 0xC3, .ld_ia16_SP 0xC35A),
   (0x11, 0x5A, 0xC3, .ld_DE_n16 0xC35A), (0x21, 0x5A, 0xC3, .ld_HL_n16 0xC35A),
   (0x31, 0x5A, 0xC3, .ld_SP_n16 0xC35A), (0xF9, 0, 0, .ld_SP_HL)]

theorem test_words_load16 : decodesAll words_load16 = true := by decide

/-- Rows of spec/opcode_table.json, family load8. -/
def words_load8_0 : List (Byte × Byte × Byte × Instr) :=
  [(0x02, 0, 0, .ld_iBC_A), (0x06, 0x5A, 0, .ld_B_n8 0x5A), (0x0A, 0, 0, .ld_A_iBC), (0x0E, 0x5A, 0, .ld_C_n8 0x5A),
   (0x12, 0, 0, .ld_iDE_A), (0x16, 0x5A, 0, .ld_D_n8 0x5A), (0x1A, 0, 0, .ld_A_iDE), (0x1E, 0x5A, 0, .ld_E_n8 0x5A),
   (0x22, 0, 0, .ld_iHLinc_A), (0x26, 0x5A, 0, .ld_H_n8 0x5A), (0x2A, 0, 0, .ld_A_iHLinc),
   (0x2E, 0x5A, 0, .ld_L_n8 0x5A), (0x32, 0, 0, .ld_iHLdec_A), (0x36, 0x5A, 0, .ld_iHL_n8 0x5A),
   (0x3A, 0, 0, .ld_A_iHLdec), (0x3E, 0x5A, 0, .ld_A_n8 0x5A), (0x40, 0, 0, .ld_B_B), (0x41, 0, 0, .ld_B_C),
   (0x42, 0, 0, .ld_B_D), (0x43, 0, 0, .ld_B_E), (0x44, 0, 0, .ld_B_H), (0x45, 0, 0, .ld_B_L),
   (0x46, 0, 0, .ld_B_iHL), (0x47, 0, 0, .ld_B_A), (0x48, 0, 0, .ld_C_B), (0x49, 0, 0, .ld_C_C),
   (0x4A, 0, 0, .ld_C_D), (0x4B, 0, 0, .ld_C_E), (0x4C, 0, 0, .ld_C_H), (0x4D, 0, 0, .ld_C_L),
   (0x4E, 0, 0, .ld_C_iHL), (0x4F, 0, 0, .ld_C_A), (0x50, 0, 0, .ld_D_B), (0x51, 0, 0, .ld_D_C),
   (0x52, 0, 0, .ld_D_D), (0x53, 0, 0, .ld_D_E), (0x54, 0, 0, .ld_D_H), (0x55, 0, 0, .ld_D_L),
   (0x56, 0, 0, .ld_D_iHL), (0x57, 0, 0, .ld_D_A), (0x58, 0, 0, .ld_E_B), (0x59, 0, 0, .ld_E_C),
   (0x5A, 0, 0, .ld_E_D), (0x5B, 0, 0, .ld_E_E), (0x5C, 0, 0, .ld_E_H), (0x5D, 0, 0, .ld_E_L),
   (0x5E, 0, 0, .ld_E_iHL), (0x5F, 0, 0, .ld_E_A), (0x60, 0, 0, .ld_H_B), (0x61, 0, 0, .ld_H_C),
   (0x62, 0, 0, .ld_H_D), (0x63, 0, 0, .ld_H_E), (0x64, 0, 0, .ld_H_H), (0x65, 0, 0, .ld_H_L),
   (0x66, 0, 0, .ld_H_iHL), (0x67, 0, 0, .ld_H_A), (0x68, 0, 0, .ld_L_B), (0x69, 0, 0, .ld_L_C),
   (0x6A, 0, 0, .ld_L_D), (0x6B, 0, 0, .ld_L_E), (0x6C, 0, 0, .ld_L_H), (0x6D, 0, 0, .ld_L_L),
   (0x6E, 0, 0, .ld_L_iHL), (0x6F, 0, 0, .ld_L_A)]

theorem test_words_load8_0 : decodesAll words_load8_0 = true := by decide

/-- Rows of spec/opcode_table.json, family load8. -/
def words_load8_1 : List (Byte × Byte × Byte × Instr) :=
  [(0x70, 0, 0, .ld_iHL_B), (0x71, 0, 0, .ld_iHL_C), (0x72, 0, 0, .ld_iHL_D), (0x73, 0, 0, .ld_iHL_E),
   (0x74, 0, 0, .ld_iHL_H), (0x75, 0, 0, .ld_iHL_L), (0x77, 0, 0, .ld_iHL_A), (0x78, 0, 0, .ld_A_B),
   (0x79, 0, 0, .ld_A_C), (0x7A, 0, 0, .ld_A_D), (0x7B, 0, 0, .ld_A_E), (0x7C, 0, 0, .ld_A_H), (0x7D, 0, 0, .ld_A_L),
   (0x7E, 0, 0, .ld_A_iHL), (0x7F, 0, 0, .ld_A_A), (0xE0, 0x5A, 0, .ldh_ia8_A 0x5A), (0xE2, 0, 0, .ld_iC_A),
   (0xEA, 0x5A, 0xC3, .ld_ia16_A 0xC35A), (0xF0, 0x5A, 0, .ldh_A_ia8 0x5A), (0xF2, 0, 0, .ld_A_iC),
   (0xFA, 0x5A, 0xC3, .ld_A_ia16 0xC35A)]

theorem test_words_load8_1 : decodesAll words_load8_1 = true := by decide

/-- Rows of spec/opcode_table.json, family alu16. -/
def words_alu16 : List (Byte × Byte × Byte × Instr) :=
  [(0x03, 0, 0, .inc_BC), (0x09, 0, 0, .add_HL_BC), (0x0B, 0, 0, .dec_BC), (0x13, 0, 0, .inc_DE),
   (0x19, 0, 0, .add_HL_DE), (0x1B, 0, 0, .dec_DE), (0x23, 0, 0, .inc_HL), (0x29, 0, 0, .add_HL_HL),
   (0x2B, 0, 0, .dec_HL), (0x33, 0, 0, .inc_SP), (0x39, 0, 0, .add_HL_SP), (0x3B, 0, 0, .dec_SP),
   (0xE8, 0x5A, 0, .add_SP_e8 0x5A), (0xF8, 0x5A, 0, .ld_HL_SPe8 0x5A)]

theorem test_words_alu16 : decodesAll words_alu16 = true := by decide

/-- Rows of spec/opcode_table.json, family alu8. -/
def words_alu8_0 : List (Byte × Byte × Byte × Instr) :=
  [(0x04, 0, 0, .inc_B), (0x05, 0, 0, .dec_B), (0x0C, 0, 0, .inc_C), (0x0D, 0, 0, .dec_C), (0x14, 0, 0, .inc_D),
   (0x15, 0, 0, .dec_D), (0x1C, 0, 0, .inc_E), (0x1D, 0, 0, .dec_E), (0x24, 0, 0, .inc_H), (0x25, 0, 0, .dec_H),
   (0x27, 0, 0, .daa), (0x2C, 0, 0, .inc_L), (0x2D, 0, 0, .dec_L), (0x2F, 0, 0, .cpl), (0x34, 0, 0, .inc_iHL),
   (0x35, 0, 0, .dec_iHL), (0x37, 0, 0, .scf), (0x3C, 0, 0, .inc_A), (0x3D, 0, 0, .dec_A), (0x3F, 0, 0, .ccf),
   (0x80, 0, 0, .add_A_B), (0x81, 0, 0, .add_A_C), (0x82, 0, 0, .add_A_D), (0x83, 0, 0, .add_A_E),
   (0x84, 0, 0, .add_A_H), (0x85, 0, 0, .add_A_L), (0x86, 0, 0, .add_A_iHL), (0x87, 0, 0, .add_A_A),
   (0x88, 0, 0, .adc_A_B), (0x89, 0, 0, .adc_A_C), (0x8A, 0, 0, .adc_A_D), (0x8B, 0, 0, .adc_A_E),
   (0x8C, 0, 0, .adc_A_H), (0x8D, 0, 0, .adc_A_L), (0x8E, 0, 0, .adc_A_iHL), (0x8F, 0, 0, .adc_A_A),
   (0x90, 0, 0, .sub_A_B), (0x91, 0, 0, .sub_A_C), (0x92, 0, 0, .sub_A_D), (0x93, 0, 0, .sub_A_E),
   (0x94, 0, 0, .sub_A_H), (0x95, 0, 0, .sub_A_L), (0x96, 0, 0, .sub_A_iHL), (0x97, 0, 0, .sub_A_A),
   (0x98, 0, 0, .sbc_A_B), (0x99, 0, 0, .sbc_A_C), (0x9A, 0, 0, .sbc_A_D), (0x9B, 0, 0, .sbc_A_E),
   (0x9C, 0, 0, .sbc_A_H), (0x9D, 0, 0, .sbc_A_L), (0x9E, 0, 0, .sbc_A_iHL), (0x9F, 0, 0, .sbc_A_A),
   (0xA0, 0, 0, .and_A_B), (0xA1, 0, 0, .and_A_C), (0xA2, 0, 0, .and_A_D), (0xA3, 0, 0, .and_A_E),
   (0xA4, 0, 0, .and_A_H), (0xA5, 0, 0, .and_A_L), (0xA6, 0, 0, .and_A_iHL), (0xA7, 0, 0, .and_A_A),
   (0xA8, 0, 0, .xor_A_B), (0xA9, 0, 0, .xor_A_C), (0xAA, 0, 0, .xor_A_D), (0xAB, 0, 0, .xor_A_E)]

theorem test_words_alu8_0 : decodesAll words_alu8_0 = true := by decide

/-- Rows of spec/opcode_table.json, family alu8. -/
def words_alu8_1 : List (Byte × Byte × Byte × Instr) :=
  [(0xAC, 0, 0, .xor_A_H), (0xAD, 0, 0, .xor_A_L), (0xAE, 0, 0, .xor_A_iHL), (0xAF, 0, 0, .xor_A_A),
   (0xB0, 0, 0, .or_A_B), (0xB1, 0, 0, .or_A_C), (0xB2, 0, 0, .or_A_D), (0xB3, 0, 0, .or_A_E), (0xB4, 0, 0, .or_A_H),
   (0xB5, 0, 0, .or_A_L), (0xB6, 0, 0, .or_A_iHL), (0xB7, 0, 0, .or_A_A), (0xB8, 0, 0, .cp_A_B),
   (0xB9, 0, 0, .cp_A_C), (0xBA, 0, 0, .cp_A_D), (0xBB, 0, 0, .cp_A_E), (0xBC, 0, 0, .cp_A_H), (0xBD, 0, 0, .cp_A_L),
   (0xBE, 0, 0, .cp_A_iHL), (0xBF, 0, 0, .cp_A_A), (0xC6, 0x5A, 0, .add_A_n8 0x5A), (0xCE, 0x5A, 0, .adc_A_n8 0x5A),
   (0xD6, 0x5A, 0, .sub_A_n8 0x5A), (0xDE, 0x5A, 0, .sbc_A_n8 0x5A), (0xE6, 0x5A, 0, .and_A_n8 0x5A),
   (0xEE, 0x5A, 0, .xor_A_n8 0x5A), (0xF6, 0x5A, 0, .or_A_n8 0x5A), (0xFE, 0x5A, 0, .cp_A_n8 0x5A)]

theorem test_words_alu8_1 : decodesAll words_alu8_1 = true := by decide

/-- Rows of spec/opcode_table.json, family rotate. -/
def words_rotate : List (Byte × Byte × Byte × Instr) :=
  [(0x07, 0, 0, .rlca), (0x0F, 0, 0, .rrca), (0x17, 0, 0, .rla), (0x1F, 0, 0, .rra)]

theorem test_words_rotate : decodesAll words_rotate = true := by decide

/-- Rows of spec/opcode_table.json, family control. -/
def words_control : List (Byte × Byte × Byte × Instr) :=
  [(0x18, 0x5A, 0, .jr_e8 0x5A), (0x20, 0x5A, 0, .jr_NZ_e8 0x5A), (0x28, 0x5A, 0, .jr_Z_e8 0x5A),
   (0x30, 0x5A, 0, .jr_NC_e8 0x5A), (0x38, 0x5A, 0, .jr_C_e8 0x5A), (0xC0, 0, 0, .ret_NZ),
   (0xC2, 0x5A, 0xC3, .jp_NZ_a16 0xC35A), (0xC3, 0x5A, 0xC3, .jp_a16 0xC35A),
   (0xC4, 0x5A, 0xC3, .call_NZ_a16 0xC35A), (0xC7, 0, 0, .rst_00), (0xC8, 0, 0, .ret_Z), (0xC9, 0, 0, .ret),
   (0xCA, 0x5A, 0xC3, .jp_Z_a16 0xC35A), (0xCC, 0x5A, 0xC3, .call_Z_a16 0xC35A),
   (0xCD, 0x5A, 0xC3, .call_a16 0xC35A), (0xCF, 0, 0, .rst_08), (0xD0, 0, 0, .ret_NC),
   (0xD2, 0x5A, 0xC3, .jp_NC_a16 0xC35A), (0xD4, 0x5A, 0xC3, .call_NC_a16 0xC35A), (0xD7, 0, 0, .rst_10),
   (0xD8, 0, 0, .ret_C), (0xD9, 0, 0, .reti), (0xDA, 0x5A, 0xC3, .jp_C_a16 0xC35A),
   (0xDC, 0x5A, 0xC3, .call_C_a16 0xC35A), (0xDF, 0, 0, .rst_18), (0xE7, 0, 0, .rst_20), (0xE9, 0, 0, .jp_HL),
   (0xEF, 0, 0, .rst_28), (0xF7, 0, 0, .rst_30), (0xFF, 0, 0, .rst_38)]

theorem test_words_control : decodesAll words_control = true := by decide

/-- Rows of spec/opcode_table.json, family stack. -/
def words_stack : List (Byte × Byte × Byte × Instr) :=
  [(0xC1, 0, 0, .pop_BC), (0xC5, 0, 0, .push_BC), (0xD1, 0, 0, .pop_DE), (0xD5, 0, 0, .push_DE),
   (0xE1, 0, 0, .pop_HL), (0xE5, 0, 0, .push_HL), (0xF1, 0, 0, .pop_AF), (0xF5, 0, 0, .push_AF)]

theorem test_words_stack : decodesAll words_stack = true := by decide

/-- Rows of spec/opcode_table.json, family undefined. -/
def words_undefined : List (Byte × Byte × Byte × Instr) :=
  [(0xD3, 0, 0, .undefinedKey 0xD3), (0xDB, 0, 0, .undefinedKey 0xDB), (0xDD, 0, 0, .undefinedKey 0xDD),
   (0xE3, 0, 0, .undefinedKey 0xE3), (0xE4, 0, 0, .undefinedKey 0xE4), (0xEB, 0, 0, .undefinedKey 0xEB),
   (0xEC, 0, 0, .undefinedKey 0xEC), (0xED, 0x5A, 0, .escape_ED 0x5A), (0xF4, 0, 0, .undefinedKey 0xF4),
   (0xFC, 0, 0, .undefinedKey 0xFC), (0xFD, 0, 0, .undefinedKey 0xFD)]

theorem test_words_undefined : decodesAll words_undefined = true := by decide

/-- Rows of spec/opcode_table.json, family cb_shift. -/
def words_cb_shift : List (Byte × Byte × Byte × Instr) :=
  [(0xCB, 0, 0, .rlc_B), (0xCB, 0x01, 0, .rlc_C), (0xCB, 0x02, 0, .rlc_D), (0xCB, 0x03, 0, .rlc_E),
   (0xCB, 0x04, 0, .rlc_H), (0xCB, 0x05, 0, .rlc_L), (0xCB, 0x06, 0, .rlc_iHL), (0xCB, 0x07, 0, .rlc_A),
   (0xCB, 0x08, 0, .rrc_B), (0xCB, 0x09, 0, .rrc_C), (0xCB, 0x0A, 0, .rrc_D), (0xCB, 0x0B, 0, .rrc_E),
   (0xCB, 0x0C, 0, .rrc_H), (0xCB, 0x0D, 0, .rrc_L), (0xCB, 0x0E, 0, .rrc_iHL), (0xCB, 0x0F, 0, .rrc_A),
   (0xCB, 0x10, 0, .rl_B), (0xCB, 0x11, 0, .rl_C), (0xCB, 0x12, 0, .rl_D), (0xCB, 0x13, 0, .rl_E),
   (0xCB, 0x14, 0, .rl_H), (0xCB, 0x15, 0, .rl_L), (0xCB, 0x16, 0, .rl_iHL), (0xCB, 0x17, 0, .rl_A),
   (0xCB, 0x18, 0, .rr_B), (0xCB, 0x19, 0, .rr_C), (0xCB, 0x1A, 0, .rr_D), (0xCB, 0x1B, 0, .rr_E),
   (0xCB, 0x1C, 0, .rr_H), (0xCB, 0x1D, 0, .rr_L), (0xCB, 0x1E, 0, .rr_iHL), (0xCB, 0x1F, 0, .rr_A),
   (0xCB, 0x20, 0, .sla_B), (0xCB, 0x21, 0, .sla_C), (0xCB, 0x22, 0, .sla_D), (0xCB, 0x23, 0, .sla_E),
   (0xCB, 0x24, 0, .sla_H), (0xCB, 0x25, 0, .sla_L), (0xCB, 0x26, 0, .sla_iHL), (0xCB, 0x27, 0, .sla_A),
   (0xCB, 0x28, 0, .sra_B), (0xCB, 0x29, 0, .sra_C), (0xCB, 0x2A, 0, .sra_D), (0xCB, 0x2B, 0, .sra_E),
   (0xCB, 0x2C, 0, .sra_H), (0xCB, 0x2D, 0, .sra_L), (0xCB, 0x2E, 0, .sra_iHL), (0xCB, 0x2F, 0, .sra_A),
   (0xCB, 0x30, 0, .swap_B), (0xCB, 0x31, 0, .swap_C), (0xCB, 0x32, 0, .swap_D), (0xCB, 0x33, 0, .swap_E),
   (0xCB, 0x34, 0, .swap_H), (0xCB, 0x35, 0, .swap_L), (0xCB, 0x36, 0, .swap_iHL), (0xCB, 0x37, 0, .swap_A),
   (0xCB, 0x38, 0, .srl_B), (0xCB, 0x39, 0, .srl_C), (0xCB, 0x3A, 0, .srl_D), (0xCB, 0x3B, 0, .srl_E),
   (0xCB, 0x3C, 0, .srl_H), (0xCB, 0x3D, 0, .srl_L), (0xCB, 0x3E, 0, .srl_iHL), (0xCB, 0x3F, 0, .srl_A)]

theorem test_words_cb_shift : decodesAll words_cb_shift = true := by decide

/-- Rows of spec/opcode_table.json, family cb_bit. -/
def words_cb_bit_0 : List (Byte × Byte × Byte × Instr) :=
  [(0xCB, 0x40, 0, .bit_0_B), (0xCB, 0x41, 0, .bit_0_C), (0xCB, 0x42, 0, .bit_0_D), (0xCB, 0x43, 0, .bit_0_E),
   (0xCB, 0x44, 0, .bit_0_H), (0xCB, 0x45, 0, .bit_0_L), (0xCB, 0x46, 0, .bit_0_iHL), (0xCB, 0x47, 0, .bit_0_A),
   (0xCB, 0x48, 0, .bit_1_B), (0xCB, 0x49, 0, .bit_1_C), (0xCB, 0x4A, 0, .bit_1_D), (0xCB, 0x4B, 0, .bit_1_E),
   (0xCB, 0x4C, 0, .bit_1_H), (0xCB, 0x4D, 0, .bit_1_L), (0xCB, 0x4E, 0, .bit_1_iHL), (0xCB, 0x4F, 0, .bit_1_A),
   (0xCB, 0x50, 0, .bit_2_B), (0xCB, 0x51, 0, .bit_2_C), (0xCB, 0x52, 0, .bit_2_D), (0xCB, 0x53, 0, .bit_2_E),
   (0xCB, 0x54, 0, .bit_2_H), (0xCB, 0x55, 0, .bit_2_L), (0xCB, 0x56, 0, .bit_2_iHL), (0xCB, 0x57, 0, .bit_2_A),
   (0xCB, 0x58, 0, .bit_3_B), (0xCB, 0x59, 0, .bit_3_C), (0xCB, 0x5A, 0, .bit_3_D), (0xCB, 0x5B, 0, .bit_3_E),
   (0xCB, 0x5C, 0, .bit_3_H), (0xCB, 0x5D, 0, .bit_3_L), (0xCB, 0x5E, 0, .bit_3_iHL), (0xCB, 0x5F, 0, .bit_3_A),
   (0xCB, 0x60, 0, .bit_4_B), (0xCB, 0x61, 0, .bit_4_C), (0xCB, 0x62, 0, .bit_4_D), (0xCB, 0x63, 0, .bit_4_E),
   (0xCB, 0x64, 0, .bit_4_H), (0xCB, 0x65, 0, .bit_4_L), (0xCB, 0x66, 0, .bit_4_iHL), (0xCB, 0x67, 0, .bit_4_A),
   (0xCB, 0x68, 0, .bit_5_B), (0xCB, 0x69, 0, .bit_5_C), (0xCB, 0x6A, 0, .bit_5_D), (0xCB, 0x6B, 0, .bit_5_E),
   (0xCB, 0x6C, 0, .bit_5_H), (0xCB, 0x6D, 0, .bit_5_L), (0xCB, 0x6E, 0, .bit_5_iHL), (0xCB, 0x6F, 0, .bit_5_A),
   (0xCB, 0x70, 0, .bit_6_B), (0xCB, 0x71, 0, .bit_6_C), (0xCB, 0x72, 0, .bit_6_D), (0xCB, 0x73, 0, .bit_6_E),
   (0xCB, 0x74, 0, .bit_6_H), (0xCB, 0x75, 0, .bit_6_L), (0xCB, 0x76, 0, .bit_6_iHL), (0xCB, 0x77, 0, .bit_6_A),
   (0xCB, 0x78, 0, .bit_7_B), (0xCB, 0x79, 0, .bit_7_C), (0xCB, 0x7A, 0, .bit_7_D), (0xCB, 0x7B, 0, .bit_7_E),
   (0xCB, 0x7C, 0, .bit_7_H), (0xCB, 0x7D, 0, .bit_7_L), (0xCB, 0x7E, 0, .bit_7_iHL), (0xCB, 0x7F, 0, .bit_7_A)]

theorem test_words_cb_bit_0 : decodesAll words_cb_bit_0 = true := by decide

/-- Rows of spec/opcode_table.json, family cb_bit. -/
def words_cb_bit_1 : List (Byte × Byte × Byte × Instr) :=
  [(0xCB, 0x80, 0, .res_0_B), (0xCB, 0x81, 0, .res_0_C), (0xCB, 0x82, 0, .res_0_D), (0xCB, 0x83, 0, .res_0_E),
   (0xCB, 0x84, 0, .res_0_H), (0xCB, 0x85, 0, .res_0_L), (0xCB, 0x86, 0, .res_0_iHL), (0xCB, 0x87, 0, .res_0_A),
   (0xCB, 0x88, 0, .res_1_B), (0xCB, 0x89, 0, .res_1_C), (0xCB, 0x8A, 0, .res_1_D), (0xCB, 0x8B, 0, .res_1_E),
   (0xCB, 0x8C, 0, .res_1_H), (0xCB, 0x8D, 0, .res_1_L), (0xCB, 0x8E, 0, .res_1_iHL), (0xCB, 0x8F, 0, .res_1_A),
   (0xCB, 0x90, 0, .res_2_B), (0xCB, 0x91, 0, .res_2_C), (0xCB, 0x92, 0, .res_2_D), (0xCB, 0x93, 0, .res_2_E),
   (0xCB, 0x94, 0, .res_2_H), (0xCB, 0x95, 0, .res_2_L), (0xCB, 0x96, 0, .res_2_iHL), (0xCB, 0x97, 0, .res_2_A),
   (0xCB, 0x98, 0, .res_3_B), (0xCB, 0x99, 0, .res_3_C), (0xCB, 0x9A, 0, .res_3_D), (0xCB, 0x9B, 0, .res_3_E),
   (0xCB, 0x9C, 0, .res_3_H), (0xCB, 0x9D, 0, .res_3_L), (0xCB, 0x9E, 0, .res_3_iHL), (0xCB, 0x9F, 0, .res_3_A),
   (0xCB, 0xA0, 0, .res_4_B), (0xCB, 0xA1, 0, .res_4_C), (0xCB, 0xA2, 0, .res_4_D), (0xCB, 0xA3, 0, .res_4_E),
   (0xCB, 0xA4, 0, .res_4_H), (0xCB, 0xA5, 0, .res_4_L), (0xCB, 0xA6, 0, .res_4_iHL), (0xCB, 0xA7, 0, .res_4_A),
   (0xCB, 0xA8, 0, .res_5_B), (0xCB, 0xA9, 0, .res_5_C), (0xCB, 0xAA, 0, .res_5_D), (0xCB, 0xAB, 0, .res_5_E),
   (0xCB, 0xAC, 0, .res_5_H), (0xCB, 0xAD, 0, .res_5_L), (0xCB, 0xAE, 0, .res_5_iHL), (0xCB, 0xAF, 0, .res_5_A),
   (0xCB, 0xB0, 0, .res_6_B), (0xCB, 0xB1, 0, .res_6_C), (0xCB, 0xB2, 0, .res_6_D), (0xCB, 0xB3, 0, .res_6_E),
   (0xCB, 0xB4, 0, .res_6_H), (0xCB, 0xB5, 0, .res_6_L), (0xCB, 0xB6, 0, .res_6_iHL), (0xCB, 0xB7, 0, .res_6_A),
   (0xCB, 0xB8, 0, .res_7_B), (0xCB, 0xB9, 0, .res_7_C), (0xCB, 0xBA, 0, .res_7_D), (0xCB, 0xBB, 0, .res_7_E),
   (0xCB, 0xBC, 0, .res_7_H), (0xCB, 0xBD, 0, .res_7_L), (0xCB, 0xBE, 0, .res_7_iHL), (0xCB, 0xBF, 0, .res_7_A)]

theorem test_words_cb_bit_1 : decodesAll words_cb_bit_1 = true := by decide

/-- Rows of spec/opcode_table.json, family cb_bit. -/
def words_cb_bit_2 : List (Byte × Byte × Byte × Instr) :=
  [(0xCB, 0xC0, 0, .set_0_B), (0xCB, 0xC1, 0, .set_0_C), (0xCB, 0xC2, 0, .set_0_D), (0xCB, 0xC3, 0, .set_0_E),
   (0xCB, 0xC4, 0, .set_0_H), (0xCB, 0xC5, 0, .set_0_L), (0xCB, 0xC6, 0, .set_0_iHL), (0xCB, 0xC7, 0, .set_0_A),
   (0xCB, 0xC8, 0, .set_1_B), (0xCB, 0xC9, 0, .set_1_C), (0xCB, 0xCA, 0, .set_1_D), (0xCB, 0xCB, 0, .set_1_E),
   (0xCB, 0xCC, 0, .set_1_H), (0xCB, 0xCD, 0, .set_1_L), (0xCB, 0xCE, 0, .set_1_iHL), (0xCB, 0xCF, 0, .set_1_A),
   (0xCB, 0xD0, 0, .set_2_B), (0xCB, 0xD1, 0, .set_2_C), (0xCB, 0xD2, 0, .set_2_D), (0xCB, 0xD3, 0, .set_2_E),
   (0xCB, 0xD4, 0, .set_2_H), (0xCB, 0xD5, 0, .set_2_L), (0xCB, 0xD6, 0, .set_2_iHL), (0xCB, 0xD7, 0, .set_2_A),
   (0xCB, 0xD8, 0, .set_3_B), (0xCB, 0xD9, 0, .set_3_C), (0xCB, 0xDA, 0, .set_3_D), (0xCB, 0xDB, 0, .set_3_E),
   (0xCB, 0xDC, 0, .set_3_H), (0xCB, 0xDD, 0, .set_3_L), (0xCB, 0xDE, 0, .set_3_iHL), (0xCB, 0xDF, 0, .set_3_A),
   (0xCB, 0xE0, 0, .set_4_B), (0xCB, 0xE1, 0, .set_4_C), (0xCB, 0xE2, 0, .set_4_D), (0xCB, 0xE3, 0, .set_4_E),
   (0xCB, 0xE4, 0, .set_4_H), (0xCB, 0xE5, 0, .set_4_L), (0xCB, 0xE6, 0, .set_4_iHL), (0xCB, 0xE7, 0, .set_4_A),
   (0xCB, 0xE8, 0, .set_5_B), (0xCB, 0xE9, 0, .set_5_C), (0xCB, 0xEA, 0, .set_5_D), (0xCB, 0xEB, 0, .set_5_E),
   (0xCB, 0xEC, 0, .set_5_H), (0xCB, 0xED, 0, .set_5_L), (0xCB, 0xEE, 0, .set_5_iHL), (0xCB, 0xEF, 0, .set_5_A),
   (0xCB, 0xF0, 0, .set_6_B), (0xCB, 0xF1, 0, .set_6_C), (0xCB, 0xF2, 0, .set_6_D), (0xCB, 0xF3, 0, .set_6_E),
   (0xCB, 0xF4, 0, .set_6_H), (0xCB, 0xF5, 0, .set_6_L), (0xCB, 0xF6, 0, .set_6_iHL), (0xCB, 0xF7, 0, .set_6_A),
   (0xCB, 0xF8, 0, .set_7_B), (0xCB, 0xF9, 0, .set_7_C), (0xCB, 0xFA, 0, .set_7_D), (0xCB, 0xFB, 0, .set_7_E),
   (0xCB, 0xFC, 0, .set_7_H), (0xCB, 0xFD, 0, .set_7_L), (0xCB, 0xFE, 0, .set_7_iHL), (0xCB, 0xFF, 0, .set_7_A)]

theorem test_words_cb_bit_2 : decodesAll words_cb_bit_2 = true := by decide

/-! ## Decoding: fields written out bit by bit from R92, R93, R96, R97 -/

/-- LD C,(HL): x=01, y=001 (C), z=110 ((HL)). -/
theorem test_bits_ld_C_iHL : decode [0b01001110#8] = .ok (.ld_C_iHL, []) := rfl

/-- INC DE: x=00, p=01 (DE), q=0, z=011. -/
theorem test_bits_inc_DE : decode [0b00010011#8] = .ok (.inc_DE, []) := rfl

/-- PUSH HL: x=11, p=10 (HL), q=0, z=101. -/
theorem test_bits_push_HL : decode [0b11100101#8] = .ok (.push_HL, []) := rfl

/-- XOR A,L: x=10, y=101 (XOR), z=101 (L). -/
theorem test_bits_xor_A_L : decode [0b10101101#8] = .ok (.xor_A_L, []) := rfl

/-- JP NC,a16: x=11, y=010 (NC), z=010. -/
theorem test_bits_jp_NC : decode [0b11010010#8, 0x34#8, 0x12#8] = .ok (.jp_NC_a16 0x1234#16, []) := rfl

/-- SRL D: CB, x=00, y=111 (SRL), z=010 (D). -/
theorem test_bits_srl_D : decode [0xCB#8, 0b00111010#8] = .ok (.srl_D, []) := rfl

/-- SET 5,E: CB, x=11, y=101 (5), z=011 (E). -/
theorem test_bits_set_5_E : decode [0xCB#8, 0b11101011#8] = .ok (.set_5_E, []) := rfl

/-- A list that ends inside an instruction is refused. -/
theorem test_decode_truncated : decode [0xCD#8, 0x34#8] = .error (.truncated 3 2) := rfl

/-- Table words: a plain key alone, and a two-byte key with its escape byte in bits 15..8. -/
theorem test_table_words :
    decodeTableWord 8 0xCD = some (.call_a16 0x0000#16) ∧ decodeTableWord 16 0xCB36 = some .swap_iHL ∧
    decodeTableWord 16 0xED00 = some (.escape_ED 0x00#8) := by decide

/-! ## One step: the state and the result are those of the vector that the comment names (spec/95_test_vectors.md). The start
is the reset state with the updates shown; `S` is the start. -/

/-- The step from `s` completes and leaves `expect s`, with one more instruction retired. -/
def leaves (s : State) (expect : State → State) : Bool :=
  match step s with
  | .next t => t == (expect s).setRetired (s.retired + 1)
  | .fault _ => false
  | .refused _ => false

/-- The step from `s` enters the error, and no instruction retires. -/
def ends (s : State) (err : FatalError) : Bool :=
  match step s with
  | .next t => t.run == .terminated err && t.retired == s.retired
  | .fault _ => false
  | .refused _ => false

/-- E5a. -/
theorem test_add_A_A :
    leaves (((State.reset.write8 0x0100#16 0x87#8).setReg8 .a 0x0F#8).setF 0x00#8)
      (fun S => (((S.setReg8 .a 0x1E#8).setF 0x20#8).setPc 0x0101#16)) = true :=
  by decide

/-- E6b. -/
theorem test_bit_0_B :
    leaves ((((State.reset.write8 0x0100#16 0xCB#8).write8 0x0101#16 0x40#8).setReg8 .b 0x7F#8).setF 0x00#8)
      (fun S => ((S.setF 0x20#8).setPc 0x0102#16)) = true :=
  by decide

/-- E7. -/
theorem test_call_a16 :
    leaves (((((State.reset.write8 0x1FFF#16 0xCD#8).write8 0x2000#16 0x12#8).write8 0x2001#16 0x12#8).setSp 0xCFFF#16).setPc 0x1FFF#16)
      (fun S => (((((S.write8 0xCFFD#16 0x02#8).write8 0xCFFE#16 0x20#8).setSp 0xCFFD#16).setF 0xB0#8).setPc 0x1212#16)) = true :=
  by decide

/-- V1. -/
theorem test_nop :
    leaves (State.reset.write8 0x0100#16 0x00#8)
      (fun S => ((S.setF 0xB0#8).setPc 0x0101#16)) = true :=
  by decide

/-- V2. -/
theorem test_undefined_D3 :
    ends ((State.reset.write8 0x0200#16 0xD3#8).setPc 0x0200#16) (.undefinedOpcode (.plain 0xD3#8)) = true :=
  by decide

/-- V3. -/
theorem test_escape_ED :
    ends (((State.reset.write8 0x0200#16 0xED#8).write8 0x0201#16 0x00#8).setPc 0x0200#16) (.undefinedOpcode (.extended 0xED#8 0x00#8)) = true :=
  by decide

/-- V4. -/
theorem test_ld_A_n8_wraps :
    leaves (((State.reset.write8 0xFFFF#16 0x3E#8).write8 0x0000#16 0x42#8).setPc 0xFFFF#16)
      (fun S => (((S.setReg8 .a 0x42#8).setF 0xB0#8).setPc 0x0001#16)) = true :=
  by decide

/-- V5. -/
theorem test_swap_A_wraps :
    leaves ((((State.reset.write8 0xFFFF#16 0xCB#8).write8 0x0000#16 0x37#8).setReg8 .a 0x12#8).setPc 0xFFFF#16)
      (fun S => (((S.setReg8 .a 0x21#8).setF 0x00#8).setPc 0x0001#16)) = true :=
  by decide

/-- V6. -/
theorem test_ld_A_ia16_raises :
    ends ((State.reset.write8 0xFFFE#16 0xFA#8).setPc 0xFFFE#16) (.addressOutOfRange 0xFFFF) = true :=
  by decide

/-- V9. -/
theorem test_ld_BC_n16_wraps :
    leaves ((((State.reset.write8 0xFFFF#16 0x01#8).write8 0x0000#16 0x34#8).write8 0x0001#16 0x12#8).setPc 0xFFFF#16)
      (fun S => ((((S.setReg8 .b 0x12#8).setReg8 .c 0x34#8).setF 0xB0#8).setPc 0x0002#16)) = true :=
  by decide

/-- V20. -/
theorem test_ld_B_C :
    leaves (((State.reset.write8 0x0100#16 0x41#8).setReg8 .b 0x00#8).setReg8 .c 0x5A#8)
      (fun S => (((S.setReg8 .b 0x5A#8).setF 0xB0#8).setPc 0x0101#16)) = true :=
  by decide

/-- V21. -/
theorem test_ld_B_n8 :
    leaves ((State.reset.write8 0x0100#16 0x06#8).write8 0x0101#16 0x99#8)
      (fun S => (((S.setReg8 .b 0x99#8).setF 0xB0#8).setPc 0x0102#16)) = true :=
  by decide

/-- V22. -/
theorem test_ld_A_iHL_echo :
    leaves (((State.reset.write8 0x0100#16 0x7E#8).write8 0xC123#16 0x77#8).setHl 0xE123#16)
      (fun S => (((S.setReg8 .a 0x77#8).setF 0xB0#8).setPc 0x0101#16)) = true :=
  by decide

/-- V23. -/
theorem test_ld_iHL_A :
    leaves (((State.reset.write8 0x0100#16 0x77#8).setHl 0x0150#16).setReg8 .a 0x3C#8)
      (fun S => (((S.write8 0x0150#16 0x3C#8).setF 0xB0#8).setPc 0x0101#16)) = true :=
  by decide

/-- V24. -/
theorem test_ld_iHL_n8 :
    leaves (((State.reset.write8 0x0100#16 0x36#8).write8 0x0101#16 0x5A#8).setHl 0xC000#16)
      (fun S => (((S.write8 0xC000#16 0x5A#8).setF 0xB0#8).setPc 0x0102#16)) = true :=
  by decide

/-- V25. -/
theorem test_ld_H_iHL :
    leaves (((State.reset.write8 0x0100#16 0x66#8).write8 0xC0C0#16 0x12#8).setHl 0xC0C0#16)
      (fun S => ((((S.setReg8 .h 0x12#8).setReg8 .l 0xC0#8).setF 0xB0#8).setPc 0x0101#16)) = true :=
  by decide

/-- V26. -/
theorem test_ld_iBC_A :
    leaves (((State.reset.write8 0x0100#16 0x02#8).setBc 0xFFFF#16).setReg8 .a 0x1F#8)
      (fun S => (((S.write8 0xFFFF#16 0x1F#8).setF 0xB0#8).setPc 0x0101#16)) = true :=
  by decide

/-- V27. -/
theorem test_ld_A_iDE :
    leaves (((State.reset.write8 0x0100#16 0x1A#8).write8 0xC000#16 0x81#8).setDe 0xC000#16)
      (fun S => (((S.setReg8 .a 0x81#8).setF 0xB0#8).setPc 0x0101#16)) = true :=
  by decide

/-- V28. -/
theorem test_ld_iHLinc_A_wraps :
    leaves (((State.reset.write8 0x0100#16 0x22#8).setHl 0xFFFF#16).setReg8 .a 0x3C#8)
      (fun S => ((((S.write8 0xFFFF#16 0x3C#8).setHl 0x0000#16).setF 0xB0#8).setPc 0x0101#16)) = true :=
  by decide

/-- V29. -/
theorem test_ld_iHLdec_A_wraps :
    leaves (((State.reset.write8 0x0100#16 0x32#8).setHl 0x0000#16).setReg8 .a 0x3C#8)
      (fun S => ((((S.write8 0x0000#16 0x3C#8).setHl 0xFFFF#16).setF 0xB0#8).setPc 0x0101#16)) = true :=
  by decide

/-- V30. -/
theorem test_ld_A_iHLinc :
    leaves (((State.reset.write8 0x0100#16 0x2A#8).write8 0xC0FF#16 0x11#8).setHl 0xC0FF#16)
      (fun S => ((((S.setReg8 .a 0x11#8).setHl 0xC100#16).setF 0xB0#8).setPc 0x0101#16)) = true :=
  by decide

/-- V31. -/
theorem test_ld_A_iHLdec :
    leaves (((State.reset.write8 0x0100#16 0x3A#8).write8 0xC000#16 0x22#8).setHl 0xC000#16)
      (fun S => ((((S.setReg8 .a 0x22#8).setHl 0xBFFF#16).setF 0xB0#8).setPc 0x0101#16)) = true :=
  by decide

/-- V32. -/
theorem test_ldh_ia8_A :
    leaves (((State.reset.write8 0x0100#16 0xE0#8).write8 0x0101#16 0x80#8).setReg8 .a 0x3C#8)
      (fun S => (((S.write8 0xFF80#16 0x3C#8).setF 0xB0#8).setPc 0x0102#16)) = true :=
  by decide

/-- V33. -/
theorem test_ldh_A_ia8 :
    leaves (((State.reset.write8 0x0100#16 0xF0#8).write8 0x0101#16 0xFF#8).write8 0xFFFF#16 0x1F#8)
      (fun S => (((S.setReg8 .a 0x1F#8).setF 0xB0#8).setPc 0x0102#16)) = true :=
  by decide

/-- V34. -/
theorem test_ld_iC_A :
    leaves (((State.reset.write8 0x0100#16 0xE2#8).setReg8 .a 0x3C#8).setReg8 .c 0x0F#8)
      (fun S => (((S.write8 0xFF0F#16 0x3C#8).setF 0xB0#8).setPc 0x0101#16)) = true :=
  by decide

/-- V35. -/
theorem test_ld_A_iC :
    leaves (((State.reset.write8 0x0100#16 0xF2#8).write8 0xFF44#16 0x90#8).setReg8 .c 0x44#8)
      (fun S => (((S.setReg8 .a 0x90#8).setF 0xB0#8).setPc 0x0101#16)) = true :=
  by decide

/-- V36. -/
theorem test_ld_A_ia16 :
    leaves ((((State.reset.write8 0x0100#16 0xFA#8).write8 0x0101#16 0x00#8).write8 0x0102#16 0xD0#8).write8 0xD000#16 0x66#8)
      (fun S => (((S.setReg8 .a 0x66#8).setF 0xB0#8).setPc 0x0103#16)) = true :=
  by decide

/-- V37. -/
theorem test_ld_ia16_A :
    leaves ((((State.reset.write8 0x0100#16 0xEA#8).write8 0x0101#16 0x00#8).write8 0x0102#16 0xFE#8).setReg8 .a 0x3C#8)
      (fun S => (((S.write8 0xFE00#16 0x3C#8).setF 0xB0#8).setPc 0x0103#16)) = true :=
  by decide

/-- V38. -/
theorem test_ld_HL_n16 :
    leaves (((State.reset.write8 0x0100#16 0x21#8).write8 0x0101#16 0x34#8).write8 0x0102#16 0x12#8)
      (fun S => ((((S.setReg8 .h 0x12#8).setReg8 .l 0x34#8).setF 0xB0#8).setPc 0x0103#16)) = true :=
  by decide

/-- V40. -/
theorem test_ld_ia16_SP :
    leaves ((((State.reset.write8 0x0100#16 0x08#8).write8 0x0101#16 0xFF#8).write8 0x0102#16 0xDF#8).setSp 0xABCD#16)
      (fun S => ((((S.write8 0xDFFF#16 0xCD#8).write8 0xC000#16 0xAB#8).setF 0xB0#8).setPc 0x0103#16)) = true :=
  by decide

/-- V41. -/
theorem test_ld_ia16_SP_raises :
    ends ((((State.reset.write8 0x0100#16 0x08#8).write8 0x0101#16 0xFF#8).write8 0x0102#16 0xFF#8).setSp 0xABCD#16) (.addressOutOfRange 0xFFFF) = true :=
  by decide

/-- V42. -/
theorem test_push_BC :
    leaves (((State.reset.write8 0x0100#16 0xC5#8).setSp 0xD000#16).setBc 0x1234#16)
      (fun S => (((((S.write8 0xCFFE#16 0x34#8).write8 0xCFFF#16 0x12#8).setSp 0xCFFE#16).setF 0xB0#8).setPc 0x0101#16)) = true :=
  by decide

/-- V43. -/
theorem test_pop_AF :
    leaves ((((State.reset.write8 0x0100#16 0xF1#8).write8 0xCFFE#16 0xFF#8).write8 0xCFFF#16 0x12#8).setSp 0xCFFE#16)
      (fun S => ((((S.setReg8 .a 0x12#8).setSp 0xD000#16).setF 0xF0#8).setPc 0x0101#16)) = true :=
  by decide

/-- V44. -/
theorem test_push_BC_raises :
    ends ((State.reset.write8 0x0100#16 0xC5#8).setSp 0x0001#16) (.addressOutOfRange 0xFFFF) = true :=
  by decide

/-- V46. -/
theorem test_pop_DE :
    leaves ((((State.reset.write8 0x0100#16 0xD1#8).write8 0xFFFE#16 0x34#8).write8 0xFFFF#16 0x12#8).setSp 0xFFFE#16)
      (fun S => (((((S.setReg8 .d 0x12#8).setReg8 .e 0x34#8).setSp 0x0000#16).setF 0xB0#8).setPc 0x0101#16)) = true :=
  by decide

/-- V47. -/
theorem test_pop_DE_raises :
    ends ((State.reset.write8 0x0100#16 0xD1#8).setSp 0xFFFF#16) (.addressOutOfRange 0xFFFF) = true :=
  by decide

/-- V48. -/
theorem test_ld_SP_HL :
    leaves ((State.reset.write8 0x0100#16 0xF9#8).setHl 0xC001#16)
      (fun S => (((S.setSp 0xC001#16).setF 0xB0#8).setPc 0x0101#16)) = true :=
  by decide

/-- V60. -/
theorem test_add_A_B :
    leaves ((((State.reset.write8 0x0100#16 0x80#8).setReg8 .a 0x80#8).setReg8 .b 0x80#8).setF 0x00#8)
      (fun S => (((S.setReg8 .a 0x00#8).setF 0x90#8).setPc 0x0101#16)) = true :=
  by decide

/-- V63. -/
theorem test_adc_A_n8 :
    leaves ((((State.reset.write8 0x0100#16 0xCE#8).write8 0x0101#16 0x01#8).setReg8 .a 0x0E#8).setF 0x10#8)
      (fun S => (((S.setReg8 .a 0x10#8).setF 0x20#8).setPc 0x0102#16)) = true :=
  by decide

/-- V65. -/
theorem test_sub_A_n8 :
    leaves ((((State.reset.write8 0x0100#16 0xD6#8).write8 0x0101#16 0x01#8).setReg8 .a 0x00#8).setF 0x00#8)
      (fun S => (((S.setReg8 .a 0xFF#8).setF 0x70#8).setPc 0x0102#16)) = true :=
  by decide

/-- V68. -/
theorem test_sbc_A_A :
    leaves (((State.reset.write8 0x0100#16 0x9F#8).setReg8 .a 0x10#8).setF 0x10#8)
      (fun S => (((S.setReg8 .a 0xFF#8).setF 0x70#8).setPc 0x0101#16)) = true :=
  by decide

/-- V69. -/
theorem test_and_A_n8 :
    leaves ((((State.reset.write8 0x0100#16 0xE6#8).write8 0x0101#16 0x3F#8).setReg8 .a 0x5A#8).setF 0x00#8)
      (fun S => (((S.setReg8 .a 0x1A#8).setF 0x20#8).setPc 0x0102#16)) = true :=
  by decide

/-- V70. -/
theorem test_or_A_n8 :
    leaves ((((State.reset.write8 0x0100#16 0xF6#8).write8 0x0101#16 0x0F#8).setReg8 .a 0x5A#8).setF 0xF0#8)
      (fun S => (((S.setReg8 .a 0x5F#8).setF 0x00#8).setPc 0x0102#16)) = true :=
  by decide

/-- V71. -/
theorem test_xor_A_n8 :
    leaves ((((State.reset.write8 0x0100#16 0xEE#8).write8 0x0101#16 0xFF#8).setReg8 .a 0xFF#8).setF 0x00#8)
      (fun S => (((S.setReg8 .a 0x00#8).setF 0x80#8).setPc 0x0102#16)) = true :=
  by decide

/-- V72. -/
theorem test_cp_A_n8 :
    leaves ((((State.reset.write8 0x0100#16 0xFE#8).write8 0x0101#16 0x40#8).setReg8 .a 0x3C#8).setF 0x00#8)
      (fun S => ((S.setF 0x50#8).setPc 0x0102#16)) = true :=
  by decide

/-- V74. -/
theorem test_cp_A_iHL :
    leaves (((((State.reset.write8 0x0100#16 0xBE#8).write8 0xC000#16 0x2F#8).setReg8 .a 0x3C#8).setHl 0xC000#16).setF 0x00#8)
      (fun S => ((S.setF 0x60#8).setPc 0x0101#16)) = true :=
  by decide

/-- V76. -/
theorem test_inc_B :
    leaves (((State.reset.write8 0x0100#16 0x04#8).setReg8 .b 0x0F#8).setF 0x10#8)
      (fun S => (((S.setReg8 .b 0x10#8).setF 0x30#8).setPc 0x0101#16)) = true :=
  by decide

/-- V77. -/
theorem test_dec_C :
    leaves (((State.reset.write8 0x0100#16 0x0D#8).setReg8 .c 0x00#8).setF 0x00#8)
      (fun S => (((S.setReg8 .c 0xFF#8).setF 0x60#8).setPc 0x0101#16)) = true :=
  by decide

/-- V79. -/
theorem test_inc_iHL :
    leaves ((((State.reset.write8 0x0100#16 0x34#8).write8 0xC010#16 0xFF#8).setHl 0xE010#16).setF 0x00#8)
      (fun S => (((S.write8 0xC010#16 0x00#8).setF 0xA0#8).setPc 0x0101#16)) = true :=
  by decide

/-- V80. -/
theorem test_dec_iHL :
    leaves ((((State.reset.write8 0x0100#16 0x35#8).write8 0xC010#16 0x10#8).setHl 0xC010#16).setF 0x00#8)
      (fun S => (((S.write8 0xC010#16 0x0F#8).setF 0x60#8).setPc 0x0101#16)) = true :=
  by decide

/-- V81. -/
theorem test_cpl :
    leaves (((State.reset.write8 0x0100#16 0x2F#8).setReg8 .a 0x35#8).setF 0x00#8)
      (fun S => (((S.setReg8 .a 0xCA#8).setF 0x60#8).setPc 0x0101#16)) = true :=
  by decide

/-- V82. -/
theorem test_scf :
    leaves ((State.reset.write8 0x0100#16 0x37#8).setF 0xE0#8)
      (fun S => ((S.setF 0x90#8).setPc 0x0101#16)) = true :=
  by decide

/-- V83. -/
theorem test_ccf :
    leaves ((State.reset.write8 0x0100#16 0x3F#8).setF 0xF0#8)
      (fun S => ((S.setF 0x80#8).setPc 0x0101#16)) = true :=
  by decide

/-- V85. -/
theorem test_daa :
    ends ((State.reset.write8 0x0200#16 0x27#8).setPc 0x0200#16) (.unimplementedOpcode (.plain 0x27#8)) = true :=
  by decide

/-- V101. -/
theorem test_add_HL_DE :
    leaves ((((State.reset.write8 0x0100#16 0x19#8).setHl 0xFFFF#16).setDe 0x0001#16).setF 0x00#8)
      (fun S => (((S.setHl 0x0000#16).setF 0x30#8).setPc 0x0101#16)) = true :=
  by decide

/-- V104. -/
theorem test_inc_BC :
    leaves (((State.reset.write8 0x0100#16 0x03#8).setBc 0x00FF#16).setF 0x00#8)
      (fun S => (((S.setBc 0x0100#16).setF 0x00#8).setPc 0x0101#16)) = true :=
  by decide

/-- V105. -/
theorem test_dec_SP :
    leaves (((State.reset.write8 0x0100#16 0x3B#8).setSp 0x0000#16).setF 0xF0#8)
      (fun S => (((S.setSp 0xFFFF#16).setF 0xF0#8).setPc 0x0101#16)) = true :=
  by decide

/-- V106. -/
theorem test_add_SP_e8 :
    leaves ((((State.reset.write8 0x0100#16 0xE8#8).write8 0x0101#16 0x01#8).setSp 0x00FF#16).setF 0xF0#8)
      (fun S => (((S.setSp 0x0100#16).setF 0x00#8).setPc 0x0102#16)) = true :=
  by decide

/-- V107. -/
theorem test_add_SP_e8_negative :
    leaves ((((State.reset.write8 0x0100#16 0xE8#8).write8 0x0101#16 0xFF#8).setSp 0xD000#16).setF 0x00#8)
      (fun S => (((S.setSp 0xCFFF#16).setF 0x10#8).setPc 0x0102#16)) = true :=
  by decide

/-- V111. -/
theorem test_ld_HL_SPe8 :
    leaves ((((State.reset.write8 0x0100#16 0xF8#8).write8 0x0101#16 0x08#8).setSp 0xFFF8#16).setF 0x00#8)
      (fun S => (((S.setHl 0x0000#16).setF 0x30#8).setPc 0x0102#16)) = true :=
  by decide

/-- V121. -/
theorem test_rlca_zero :
    leaves (((State.reset.write8 0x0100#16 0x07#8).setReg8 .a 0x00#8).setF 0x10#8)
      (fun S => (((S.setReg8 .a 0x00#8).setF 0x80#8).setPc 0x0101#16)) = true :=
  by decide

/-- V122. -/
theorem test_rla :
    leaves (((State.reset.write8 0x0100#16 0x17#8).setReg8 .a 0x80#8).setF 0x00#8)
      (fun S => (((S.setReg8 .a 0x00#8).setF 0x90#8).setPc 0x0101#16)) = true :=
  by decide

/-- V123. -/
theorem test_rrca :
    leaves (((State.reset.write8 0x0100#16 0x0F#8).setReg8 .a 0x01#8).setF 0x00#8)
      (fun S => (((S.setReg8 .a 0x80#8).setF 0x10#8).setPc 0x0101#16)) = true :=
  by decide

/-- V125. -/
theorem test_rra :
    leaves (((State.reset.write8 0x0100#16 0x1F#8).setReg8 .a 0x00#8).setF 0x10#8)
      (fun S => (((S.setReg8 .a 0x80#8).setF 0x00#8).setPc 0x0101#16)) = true :=
  by decide

/-- V126. -/
theorem test_rlc_B :
    leaves ((((State.reset.write8 0x0100#16 0xCB#8).write8 0x0101#16 0x00#8).setReg8 .b 0x80#8).setF 0x00#8)
      (fun S => (((S.setReg8 .b 0x01#8).setF 0x10#8).setPc 0x0102#16)) = true :=
  by decide

/-- V127. -/
theorem test_rrc_C :
    leaves ((((State.reset.write8 0x0100#16 0xCB#8).write8 0x0101#16 0x09#8).setReg8 .c 0x01#8).setF 0x00#8)
      (fun S => (((S.setReg8 .c 0x80#8).setF 0x10#8).setPc 0x0102#16)) = true :=
  by decide

/-- V128. -/
theorem test_rl_D :
    leaves ((((State.reset.write8 0x0100#16 0xCB#8).write8 0x0101#16 0x12#8).setReg8 .d 0x80#8).setF 0x10#8)
      (fun S => (((S.setReg8 .d 0x01#8).setF 0x10#8).setPc 0x0102#16)) = true :=
  by decide

/-- V129. -/
theorem test_rr_E :
    leaves ((((State.reset.write8 0x0100#16 0xCB#8).write8 0x0101#16 0x1B#8).setReg8 .e 0x01#8).setF 0x00#8)
      (fun S => (((S.setReg8 .e 0x00#8).setF 0x90#8).setPc 0x0102#16)) = true :=
  by decide

/-- V130. -/
theorem test_sla_H :
    leaves ((((State.reset.write8 0x0100#16 0xCB#8).write8 0x0101#16 0x24#8).setReg8 .h 0xC0#8).setF 0x00#8)
      (fun S => (((S.setReg8 .h 0x80#8).setF 0x10#8).setPc 0x0102#16)) = true :=
  by decide

/-- V131. -/
theorem test_sra_L :
    leaves ((((State.reset.write8 0x0100#16 0xCB#8).write8 0x0101#16 0x2D#8).setReg8 .l 0x81#8).setF 0x00#8)
      (fun S => (((S.setReg8 .l 0xC0#8).setF 0x10#8).setPc 0x0102#16)) = true :=
  by decide

/-- V132. -/
theorem test_srl_A :
    leaves ((((State.reset.write8 0x0100#16 0xCB#8).write8 0x0101#16 0x3F#8).setReg8 .a 0x81#8).setF 0x00#8)
      (fun S => (((S.setReg8 .a 0x40#8).setF 0x10#8).setPc 0x0102#16)) = true :=
  by decide

/-- V134. -/
theorem test_swap_iHL :
    ends (((((State.reset.write8 0x0200#16 0xCB#8).write8 0x0201#16 0x36#8).write8 0xC000#16 0xF0#8).setHl 0xC000#16).setPc 0x0200#16) (.unimplementedOpcode (.extended 0xCB#8 0x36#8)) = true :=
  by decide

/-- V135. -/
theorem test_rlc_iHL :
    leaves (((((State.reset.write8 0x0100#16 0xCB#8).write8 0x0101#16 0x06#8).write8 0xC000#16 0x81#8).setHl 0xE000#16).setF 0x00#8)
      (fun S => (((S.write8 0xC000#16 0x03#8).setF 0x10#8).setPc 0x0102#16)) = true :=
  by decide

/-- V136. -/
theorem test_bit_7_iHL :
    leaves (((((State.reset.write8 0x0100#16 0xCB#8).write8 0x0101#16 0x7E#8).write8 0xC000#16 0x80#8).setHl 0xC000#16).setF 0x10#8)
      (fun S => ((S.setF 0x30#8).setPc 0x0102#16)) = true :=
  by decide

/-- V138. -/
theorem test_res_0_iHL :
    leaves (((((State.reset.write8 0x0100#16 0xCB#8).write8 0x0101#16 0x86#8).write8 0xFFFF#16 0x1F#8).setHl 0xFFFF#16).setF 0x00#8)
      (fun S => (((S.write8 0xFFFF#16 0x1E#8).setF 0x00#8).setPc 0x0102#16)) = true :=
  by decide

/-- V139. -/
theorem test_set_7_B :
    leaves ((((State.reset.write8 0x0100#16 0xCB#8).write8 0x0101#16 0xF8#8).setReg8 .b 0x00#8).setF 0xF0#8)
      (fun S => (((S.setReg8 .b 0x80#8).setF 0xF0#8).setPc 0x0102#16)) = true :=
  by decide

/-- V150. -/
theorem test_jp_a16 :
    leaves (((State.reset.write8 0x0100#16 0xC3#8).write8 0x0101#16 0x00#8).write8 0x0102#16 0x20#8)
      (fun S => ((S.setF 0xB0#8).setPc 0x2000#16)) = true :=
  by decide

/-- V152. -/
theorem test_jp_NZ_not_taken :
    leaves ((((State.reset.write8 0x0100#16 0xC2#8).write8 0x0101#16 0x00#8).write8 0x0102#16 0x20#8).setF 0x80#8)
      (fun S => ((S.setF 0x80#8).setPc 0x0103#16)) = true :=
  by decide

/-- V153. -/
theorem test_jp_NZ_taken :
    leaves ((((State.reset.write8 0x0100#16 0xC2#8).write8 0x0101#16 0x00#8).write8 0x0102#16 0x20#8).setF 0x00#8)
      (fun S => ((S.setF 0x00#8).setPc 0x2000#16)) = true :=
  by decide

/-- V154. -/
theorem test_jp_HL :
    leaves ((State.reset.write8 0x0100#16 0xE9#8).setHl 0x4000#16)
      (fun S => ((S.setF 0xB0#8).setPc 0x4000#16)) = true :=
  by decide

/-- V157. -/
theorem test_jr_e8 :
    leaves ((State.reset.write8 0x0100#16 0x18#8).write8 0x0101#16 0x80#8)
      (fun S => ((S.setF 0xB0#8).setPc 0x0082#16)) = true :=
  by decide

/-- V158. -/
theorem test_jr_Z_not_taken :
    leaves (((State.reset.write8 0x0100#16 0x28#8).write8 0x0101#16 0x10#8).setF 0x00#8)
      (fun S => ((S.setF 0x00#8).setPc 0x0102#16)) = true :=
  by decide

/-- V159. -/
theorem test_jr_C_taken :
    leaves (((State.reset.write8 0x0100#16 0x38#8).write8 0x0101#16 0x10#8).setF 0x10#8)
      (fun S => ((S.setF 0x10#8).setPc 0x0112#16)) = true :=
  by decide

/-- V162. -/
theorem test_call_NZ_not_taken :
    leaves (((((State.reset.write8 0x0100#16 0xC4#8).write8 0x0101#16 0x00#8).write8 0x0102#16 0x30#8).setSp 0xD000#16).setF 0x80#8)
      (fun S => ((S.setF 0x80#8).setPc 0x0103#16)) = true :=
  by decide

/-- V163. -/
theorem test_call_a16_raises :
    ends ((((State.reset.write8 0x0100#16 0xCD#8).write8 0x0101#16 0x00#8).write8 0x0102#16 0x30#8).setSp 0x0001#16) (.addressOutOfRange 0xFFFF) = true :=
  by decide

/-- V164. -/
theorem test_ret :
    leaves ((((State.reset.write8 0x0100#16 0xC9#8).write8 0xCFFE#16 0x03#8).write8 0xCFFF#16 0x02#8).setSp 0xCFFE#16)
      (fun S => (((S.setSp 0xD000#16).setF 0xB0#8).setPc 0x0203#16)) = true :=
  by decide

/-- V165. -/
theorem test_ret_Z_not_taken :
    leaves (((((State.reset.write8 0x0100#16 0xC8#8).write8 0xCFFE#16 0x03#8).write8 0xCFFF#16 0x02#8).setSp 0xCFFE#16).setF 0x00#8)
      (fun S => ((S.setF 0x00#8).setPc 0x0101#16)) = true :=
  by decide

/-- V166. -/
theorem test_ret_NZ_taken :
    leaves (((((State.reset.write8 0x0100#16 0xC0#8).write8 0xCFFE#16 0x03#8).write8 0xCFFF#16 0x02#8).setSp 0xCFFE#16).setF 0x00#8)
      (fun S => (((S.setSp 0xD000#16).setF 0x00#8).setPc 0x0203#16)) = true :=
  by decide

/-- V167. -/
theorem test_ret_raises :
    ends ((State.reset.write8 0x0100#16 0xC9#8).setSp 0xFFFF#16) (.addressOutOfRange 0xFFFF) = true :=
  by decide

/-- V168. -/
theorem test_reti :
    leaves ((((State.reset.write8 0x0100#16 0xD9#8).write8 0xCFFE#16 0x03#8).write8 0xCFFF#16 0x02#8).setSp 0xCFFE#16)
      (fun S => ((((S.setSp 0xD000#16).setF 0xB0#8).setPc 0x0203#16).setQueue [⟨1, .enableIE⟩])) = true :=
  by decide

/-- V170. -/
theorem test_rst_38 :
    leaves (((State.reset.write8 0x0200#16 0xFF#8).setSp 0xD000#16).setPc 0x0200#16)
      (fun S => (((((S.write8 0xCFFE#16 0x01#8).write8 0xCFFF#16 0x02#8).setSp 0xCFFE#16).setF 0xB0#8).setPc 0x0038#16)) = true :=
  by decide

/-- V172. -/
theorem test_jp_C_operand_raises :
    ends ((((((((State.reset.write8 0xFFFE#16 0xDA#8).write8 0xFFFF#16 0x00#8).write8 0x0000#16 0x30#8).write8 0xFFFF#16 0x00#8).write8 0x0000#16 0x30#8).setSp 0xD000#16).setF 0xB0#8).setPc 0xFFFE#16) (.addressOutOfRange 0xFFFF) = true :=
  by decide

/-- E9-1. -/
theorem test_di :
    leaves (((State.reset.write8 0x0100#16 0xF3#8).write8 0x0101#16 0x00#8).write8 0xFFFF#16 0x1F#8)
      (fun S => ((((S.write8 0xFFFF#16 0x1F#8).setF 0xB0#8).setPc 0x0101#16).setQueue [⟨1, .disableIE⟩])) = true :=
  by decide

/-- V183. -/
theorem test_ei :
    leaves ((State.reset.write8 0x0100#16 0xFB#8).write8 0x0101#16 0x00#8)
      (fun S => ((((S.write8 0xFFFF#16 0x00#8).setF 0xB0#8).setPc 0x0101#16).setQueue [⟨1, .enableIE⟩])) = true :=
  by decide

/-- V188. -/
theorem test_halt :
    ends ((State.reset.write8 0x0200#16 0x76#8).setPc 0x0200#16) (.unimplementedOpcode (.plain 0x76#8)) = true :=
  by decide

/-- V189. -/
theorem test_stop :
    leaves (((State.reset.write8 0x0150#16 0x10#8).write8 0x0151#16 0x00#8).setPc 0x0150#16)
      (fun S => (((S.setF 0xB0#8).setPc 0x0152#16).setRun .stopped)) = true :=
  by decide

/-- E9-2, its second step: the action DI scheduled fires when the instruction after DI retires. -/
theorem test_di_fires_after_next :
    leaves ((((State.reset.write8 0xFFFF#16 0x1F#8).setQueue [⟨1, .disableIE⟩]).setPc 0x0101#16))
      (fun S => ((S.write8 0xFFFF#16 0x00#8).setQueue []).setPc 0x0102#16) = true :=
  by decide

/-- V190: `wake()` enters Running and changes nothing else. -/
theorem test_wake : (State.reset.setRun .stopped).wake = some State.reset ∧ State.reset.wake = none := by decide

/-- V203: with nothing loaded, the first step from reset is a NOP. -/
theorem test_reset_runs_nop : leaves State.reset (fun S => S.setPc 0x0101#16) = true := by decide

/-- R331: a load writes memory alone. -/
theorem test_load : (State.reset.load [0x3E#8, 0x0F#8]) = (State.reset.setMem [(0, 0x3E#8), (1, 0x0F#8)], none) := by decide

/-- R305: a validation report ends the launch. -/
theorem test_launch_report : launch (.error "bad header") = .error (.romValidationError "bad header") := rfl

/-- V7, with K = 2: the steps that leave `retired` at 2 and 4 call render(), the step that leaves it at 1 does not. -/
theorem test_render_every_second :
    (State.reset.setRetired 1).renderCallAt 2 = some [] ∧ (State.reset.setRetired 3).renderCallAt 2 = some [] ∧
    State.reset.renderCallAt 2 = none := by decide

/-- R100: a step that raises reaches no step 8, though `retired` stays at a multiple. -/
theorem test_render_not_after_raise : (State.reset.write8 0x0100#16 0xD3#8).renderCallAt 2 = none := by decide

/-- The host's probe: the word is placed at pc and the next step runs it. -/
theorem test_withFetchWord : fetch (State.reset.withFetchWord 16 0xCB40) = .bit_0_B := by decide

/-! ## Witnesses: states and operands that meet the hypotheses of the obligations, at the ends of their ranges -/

/-- DecodeOfEncode. -/
theorem test_witness_DecodeOfEncode : (Instr.undefinedKey 0xD3#8).wf = true ∧ (Instr.jp_a16 0xFFFF#16).wf = true := by decide

/-- BusAccessBounds: each range's ends and the numbers beside them. -/
theorem test_witness_BusAccessBounds :
    (∀ a ∈ [0, 65535], (0 : Int) ≤ a ∧ a ≤ 65535) ∧ (∀ a ∈ [-1, 65536], ¬((0 : Int) ≤ a ∧ a ≤ 65535)) ∧
    (∀ a ∈ [0, 65534], (0 : Int) ≤ a ∧ a ≤ 65534) ∧ ∀ a ∈ [-1, 65535], ¬((0 : Int) ≤ a ∧ a ≤ 65534) := by decide

/-- ByteWriteChangesOneCell: an alias, and another cell (E3). -/
theorem test_witness_ByteWriteChangesOneCell :
    (0 : Int) ≤ 0xFDFF ∧ (0xFDFF : Int) ≤ 65535 ∧ canon 0xFDFF = canon 0xDDFF ∧ canon 0xDE00 ≠ canon 0xFE00 ∧
    canon 0 ≠ canon 0xFFFF := by decide

/-- EchoMirrorsWorkRam: the ends of the mirrored range, and the addresses past it. -/
theorem test_witness_EchoMirrorsWorkRam :
    canon 0xC000 = canon 0xE000 ∧ canon 0xDDFF = canon 0xFDFF ∧ canon 0xDE00 ≠ canon 0xFE00 ∧ canon 0xBFFF ≠ canon 0xDFFF ∧
    (0xFFFF : Nat) ≤ 0xFFFF := by decide

/-- WordsAreLittleEndian: both ends, and the word that straddles the mirror (E3, V40). -/
theorem test_witness_WordsAreLittleEndian :
    (∀ a ∈ [0, 0xDFFF, 65534], (0 : Int) ≤ a ∧ a ≤ 65534) ∧ canon 0 ≠ canon 0xDFFF ∧ canon 0 ≠ canon 0xE000 ∧
    ((Memory.writeWord [] 0xDFFF 0xBEEF#16).toOption == some [(0xC000, 0xBE#8), (0xDFFF, 0xEF#8)]) = true := by decide

/-- CanonicalFormIsKeptAndUnique. -/
theorem test_witness_CanonicalFormIsKeptAndUnique :
    ∃ m m' : Memory, m.wf = true ∧ m ≠ [] ∧ m.writeByte 0xE000 0x1FF = .ok m' ∧ (∃ w, m.writeWord 0 0x0100#16 = .ok w) ∧
      m'.wf = true ∧ ∀ a : Word, m'.peek a = m'.peek a :=
  ⟨[(0xC000, 0x01#8)], [(0xC000, 0xFF#8)], rfl, by decide, rfl, ⟨_, rfl⟩, rfl, fun _ => rfl⟩

/-- SignedReadsAreTwosComplement. -/
theorem test_witness_SignedReadsAreTwosComplement :
    Memory.readByte [(0, 0x80#8)] 0 = .ok 0x80#8 ∧ Memory.readWord [(1, 0x80#8)] 0 = .ok 0x8000#16 := ⟨rfl, rfl⟩

/-- LdAccumulatorFromMemory and StAccumulatorToMemory: each form, the high page at both ends. -/
theorem test_witness_LdAndStAccumulator :
    (Instr.ld_A_iBC = .ld_A_iBC ∧ State.reset.bc = 0x000D#16) ∧ (Instr.ld_A_iDE = .ld_A_iDE ∧ State.reset.de = 0x00D8#16) ∧
    Instr.ld_A_ia16 0xFFFF#16 = .ld_A_ia16 0xFFFF#16 ∧ highPage 0x00#8 = 0xFF00#16 ∧ highPage 0xFF#8 = 0xFFFF#16 ∧
    (0xFF00#16 + (0xFF#8).setWidth 16 = 0xFFFF#16) := by decide

/-- StStackPointer: both clauses. -/
theorem test_witness_StStackPointer : (0xFFFE#16 : Word) ≠ 0xFFFF#16 ∧ (0xFFFF#16 : Word) = 0xFFFF#16 := by decide

/-- PushStoresPairBelow, CallsPushReturnAddress and RestartCallsFixedAddress: both clauses on the stack pointer, and a
condition that holds and one that does not. -/
theorem test_witness_PushAndCalls :
    (State.reset.setSp 0x0000#16).regs.sp ≠ 0x0001#16 ∧ (State.reset.setSp 0x0002#16).regs.sp ≠ 0x0001#16 ∧
    (State.reset.setSp 0x0001#16).regs.sp = 0x0001#16 ∧ State.reset.cond .z = true ∧ State.reset.cond .nz = false ∧
    Instr.callCond .z 0x1234#16 = .call_Z_a16 0x1234#16 := by decide

/-- PopLoadsPair, ReturnsPopPc and RetiPopsAndSchedules: both clauses on the stack pointer, and AF beside another pair. -/
theorem test_witness_PopAndReturns :
    (State.reset.setSp 0xFFFE#16).regs.sp ≠ 0xFFFF#16 ∧ (State.reset.setSp 0x0000#16).regs.sp ≠ 0xFFFF#16 ∧
    (State.reset.setSp 0xFFFF#16).regs.sp = 0xFFFF#16 ∧ Rp2.bc ≠ .af ∧ Rp2.af = .af ∧ State.reset.cond .c = true ∧
    State.reset.cond .nc = false ∧ Instr.retCond .c = .ret_C := by decide

/-- AddAndAddWithCarry, SubAndSubWithCarry and AccumulatorRotates: the listed operations, with the carry flag set. -/
theorem test_witness_ListedOperations :
    AluOp.adc ∈ [AluOp.add, .adc] ∧ AluOp.sbc ∈ [AluOp.sub, .sbc] ∧ State.reset.flagC = true ∧
    (Instr.rra, 0x1F#8, ShiftOp.rr) ∈ [(Instr.rlca, 0x07#8, ShiftOp.rlc), (.rla, 0x17#8, .rl), (.rrca, 0x0F#8, .rrc),
      (.rra, 0x1F#8, .rr)] := by decide

/-- ShiftMemoryForms. -/
theorem test_witness_ShiftMemoryForms : ShiftOp.srl ≠ .swap := by decide

/-- ErrorEntriesRaise, its last clause. -/
theorem test_witness_ErrorEntriesRaise :
    ∃ t, State.reset.run = .running ∧ exec .halt State.reset = .next t ∧
      t.run = .terminated (.unimplementedOpcode (.plain 0x76#8)) := ⟨_, rfl, rfl, rfl⟩

/-- The Imm16Raises clauses: the opcode at 0xFFFE. -/
theorem test_witness_Imm16Raises : (State.reset.setPc 0xFFFE#16).regs.pc = 0xFFFE#16 := by decide

/-- StopWaitsForWake: STOP at 0xFFFF, whose second byte is at 0x0000; and the clauses on `run`. -/
theorem test_witness_StopWaitsForWake :
    (∃ s : State, s.run = .running ∧ s.queue = [] ∧ fetch s = .stop 0x00#8) ∧
    (State.reset.setRun .stopped).run = .stopped ∧ State.reset.run ≠ .stopped :=
  ⟨⟨(State.reset.write8 0xFFFF#16 0x10#8).setPc 0xFFFF#16, rfl, rfl, by decide⟩, rfl, by decide⟩

/-- ScheduleValidatesCountdown. -/
theorem test_witness_ScheduleValidatesCountdown : (0 : Int) ≤ 0 ∧ (0 : Int) < 1 := by decide

/-- TickFiresAtZero: a queue at 1 and 2, and one with no entry at 1. -/
theorem test_witness_TickFiresAtZero :
    (∀ e ∈ (State.reset.setQueue [⟨1, .disableIE⟩, ⟨2, .enableIE⟩]).queue, 0 < e.countdown) ∧
    (State.reset.setQueue [⟨1, .disableIE⟩, ⟨2, .enableIE⟩]).queue = [] ++ ⟨1, .disableIE⟩ :: [⟨2, .enableIE⟩] ∧
    (∀ e ∈ [(⟨2, .enableIE⟩ : Deferred)], e.countdown ≠ 1) := by decide

/-- The reset state meets the invariant, and so does one with a pending action. -/
theorem test_witness_Inv : State.reset.Inv ∧ (State.reset.setQueue [⟨1, .enableIE⟩]).Inv :=
  ⟨⟨rfl, rfl, .inl rfl⟩, ⟨rfl, rfl, .inr ⟨.enableIE, rfl⟩⟩⟩

/-- DeferredWriteLatency: DI, EI and RETI with a NOP after each, DI with an action pending, and DI with an undefined key after
it. -/
theorem test_witness_DeferredWriteLatency :
    (∃ s t u : State, s.run = .running ∧ s.Inv ∧ s.queue = [] ∧ step s = .next t ∧ step t = .next u ∧
      u.run.isTerminated = false ∧ fetch s = .di) ∧
    (∃ s t u : State, s.run = .running ∧ s.Inv ∧ s.queue = [] ∧ step s = .next t ∧ step t = .next u ∧
      u.run.isTerminated = false ∧ fetch s = .ei) ∧
    (∃ s t u : State, s.run = .running ∧ s.Inv ∧ s.queue = [] ∧ step s = .next t ∧ step t = .next u ∧
      u.run.isTerminated = false ∧ fetch s = .reti) ∧
    (∃ s t u : State, s.run = .running ∧ s.Inv ∧ s.queue = [⟨1, .disableIE⟩] ∧ step s = .next t ∧ step t = .next u ∧
      u.run.isTerminated = false ∧ fetch s = .di) ∧
    ∃ s t u : State, s.run = .running ∧ s.Inv ∧ s.queue = [] ∧ step s = .next t ∧ step t = .next u ∧
      u.run.isTerminated = true ∧ fetch s = .di :=
  ⟨⟨State.reset.write8 0x0100#16 0xF3#8, _, _, rfl, ⟨rfl, rfl, .inl rfl⟩, rfl, rfl, rfl, rfl, rfl⟩,
    ⟨State.reset.write8 0x0100#16 0xFB#8, _, _, rfl, ⟨rfl, rfl, .inl rfl⟩, rfl, rfl, rfl, rfl, rfl⟩,
    ⟨State.reset.write8 0x0100#16 0xD9#8, _, _, rfl, ⟨rfl, rfl, .inl rfl⟩, rfl, rfl, rfl, rfl, rfl⟩,
    ⟨(State.reset.write8 0x0100#16 0xF3#8).setQueue [⟨1, .disableIE⟩], _, _, rfl, ⟨rfl, rfl, .inr ⟨_, rfl⟩⟩, rfl, rfl, rfl,
      rfl, rfl⟩,
    ⟨(State.reset.write8 0x0100#16 0xF3#8).write8 0x0101#16 0xD3#8, _, _, rfl, ⟨rfl, rfl, .inl rfl⟩, rfl, rfl, rfl, rfl, rfl⟩⟩

/-- QueueHoldsAtMostTwo: DI beside a pending action. -/
theorem test_witness_QueueHoldsAtMostTwo :
    ∃ s t : State, s.run = .running ∧ s.Inv ∧ exec .di s = .next t ∧ t.queue.length = 2 :=
  ⟨State.reset.setQueue [⟨1, .enableIE⟩], _, rfl, test_witness_Inv.2, rfl, rfl⟩

/-- StepRunsDecodedInstruction: an instruction that fits, and a 16-bit immediate that starts at 0xFFFF. -/
theorem test_witness_StepRunsDecodedInstruction :
    (∃ s : State, s.run = .running ∧
      decode [s.read8 s.regs.pc, s.read8 (s.regs.pc + 1#16), s.read8 (s.regs.pc + 2#16)] = .ok (.ld_A_n8 0x42#8, [0x00#8]) ∧
      s.regs.pc ≠ 0xFFFE#16) ∧
    ∃ s : State, s.run = .running ∧
      decode [s.read8 s.regs.pc, s.read8 (s.regs.pc + 1#16), s.read8 (s.regs.pc + 2#16)] = .ok (.ld_A_ia16 0x0000#16, []) ∧
      (Instr.ld_A_ia16 0x0000#16).operands.length = 2 ∧ s.regs.pc = 0xFFFE#16 :=
  ⟨⟨(State.reset.write8 0x0100#16 0x3E#8).write8 0x0101#16 0x42#8, rfl, rfl, by decide⟩,
    ⟨(State.reset.write8 0xFFFE#16 0xFA#8).setPc 0xFFFE#16, rfl, rfl, rfl, rfl⟩⟩

/-- RetireFollowsTheLoop: both clauses. -/
theorem test_witness_RetireFollowsTheLoop :
    (State.reset.setRun (.terminated (.addressOutOfRange 0xFFFF))).run.isTerminated = true ∧
    State.reset.run.isTerminated = false := ⟨rfl, rfl⟩

/-- UndefinedOpcodeIsFatal: the first and the last undefined key, and the escape. -/
theorem test_witness_UndefinedOpcodeIsFatal :
    State.reset.run = .running ∧ undefinedPlainKeys.contains ((State.reset.write8 0x0100#16 0xD3#8).read8 0x0100#16) = true ∧
    undefinedPlainKeys.contains ((State.reset.write8 0x0100#16 0xFD#8).read8 0x0100#16) = true ∧
    (State.reset.write8 0x0100#16 0xED#8).read8 0x0100#16 = 0xED#8 := by decide

/-- NoStepUnlessRunning: each run state. -/
theorem test_witness_NoStepUnlessRunning :
    State.reset.run = .running ∧ (State.reset.setRun .stopped).run = .stopped ∧
    (State.reset.setRun (.terminated (.undefinedOpcode (.plain 0xD3#8)))).run =
      .terminated (.undefinedOpcode (.plain 0xD3#8)) := ⟨rfl, rfl, rfl⟩

/-- StepErrorsAreTheThreeKinds: a step that ends in an error. -/
theorem test_witness_StepErrorsAreTheThreeKinds :
    ∃ s t : State, step s = .next t ∧ t.run = .terminated (.undefinedOpcode (.plain 0xD3#8)) :=
  ⟨State.reset.write8 0x0100#16 0xD3#8, _, rfl, rfl⟩

/-- OnlyStopStops, PcAdvancesByLength, RetiredCountsCompletedSteps and StepKeepsInvariant: a step that completes. -/
theorem test_witness_StepCompletes :
    ∃ s t : State, s.Inv ∧ step s = .next t ∧ t.run.isTerminated = false ∧ (fetch s).ownsPc = false :=
  ⟨State.reset, _, test_witness_Inv.1, rfl, rfl, rfl⟩

/-- RetiredCountsCompletedSteps: a step that raises, and states with no step. -/
theorem test_witness_RetiredCountsCompletedSteps :
    (∃ s t : State, step s = .next t ∧ t.run.isTerminated = true) ∧ (State.reset.setRun .stopped).run ≠ .running ∧
    (State.reset.setRun (.terminated (.undefinedOpcode (.plain 0xD3#8)))).run ≠ .running :=
  ⟨⟨State.reset.write8 0x0100#16 0xD3#8, _, rfl, rfl⟩, by decide, by decide⟩

/-- LoadWritesImage: a byte that no later byte replaces, a replaced one (V200's cells), and a cell no byte reaches. -/
theorem test_witness_LoadWritesImage :
    ([0x11#8, 0x22#8].length ≤ 65536) ∧ (65536 < (List.replicate 65537 0x00#8).length) ∧
    (1 < [0x11#8, 0x22#8].length ∧ (1 : Nat) ≤ 0xFFFF ∧
      ∀ j, 1 < j → j < [0x11#8, 0x22#8].length → j ≤ 0xFFFF → canon j ≠ canon 1) ∧
    (canon 0xE000 = canon 0xC000) ∧
    ∀ k, k < [0x11#8, 0x22#8].length → k ≤ 0xFFFF → canon k ≠ canon (0x0002#16 : Word).toNat := by
  refine ⟨by decide, by rw [List.length_replicate]; decide, ⟨by decide, by decide, ?_⟩, by decide, ?_⟩
  · intro j h1 h2
    simp only [List.length_cons, List.length_nil] at h2
    omega
  · intro k h
    simp only [List.length_cons, List.length_nil] at h
    have : k = 0 ∨ k = 1 := by omega
    rcases this with rfl | rfl <;> decide

end Sys2Proof.Tests
end

namespace Sys2Proof.Proofs

open Sys2Proof Sys2Proof.Machine Sys2Proof.Laws

/-! ## The deferred queue between two steps (R10, R40, R41) -/

/-- The queue as the invariant has it between steps: at most one entry, with one tick to go. -/
def QueueSettled (q : List Deferred) : Prop := q = [] ∨ ∃ effect, q = [⟨1, effect⟩]

theorem QueueSettled.length_le_one {q : List Deferred} (h : QueueSettled q) : q.length ≤ 1 := by
  obtain rfl | ⟨effect, rfl⟩ := h
  · exact Nat.zero_le 1
  · exact Nat.le_refl 1

theorem scheduled_cases (i : Instr) : scheduled i = [] ∨ ∃ effect, scheduled i = [⟨2, effect⟩] := by
  unfold scheduled
  split
  · exact .inr ⟨_, rfl⟩
  · exact .inr ⟨_, rfl⟩
  · exact .inr ⟨_, rfl⟩
  · exact .inl rfl

theorem length_scheduled_le_one (i : Instr) : (scheduled i).length ≤ 1 := by
  obtain h | ⟨effect, h⟩ := scheduled_cases i
  · exact h ▸ Nat.zero_le 1
  · exact h ▸ Nat.le_refl 1

theorem tick_queue (s : State) : (tick s).queue = (countDown s.queue).filter (fun e => e.countdown != 0) := by
  obtain ⟨-, -, -, -, hq, -, -⟩ := tick_frame s
  exact hq

/-- The settled entry leaves at the tick that follows the effect, and what the effect scheduled has one tick to go. -/
theorem tick_queue_of_ran {i : Instr} {s t : State} (hs : QueueSettled s.queue) (h : Ran i s t) :
    (tick t).queue = countDown (scheduled i) := by
  have hstays : (countDown (scheduled i)).filter (fun e => e.countdown != 0) = countDown (scheduled i) := by
    obtain hi | ⟨effect, hi⟩ := scheduled_cases i
    · rw [hi]; rfl
    · rw [hi]; rfl
  rw [tick_queue, h.queue]
  obtain hq | ⟨effect, hq⟩ := hs
  · rw [hq, List.nil_append, hstays]
  · rw [hq]
    exact hstays

theorem queueSettled_countDown_scheduled (i : Instr) : QueueSettled (countDown (scheduled i)) := by
  obtain h | ⟨effect, h⟩ := scheduled_cases i
  · exact .inl (by rw [h]; rfl)
  · exact .inr ⟨effect, by rw [h]; rfl⟩

theorem retireNow_queue (i : Instr) (s : State) : (retireNow i s).queue = (tick s).queue := by
  obtain ⟨-, hq, -⟩ := retireNow_frame i s
  exact hq

theorem queueSettled_retireNow {i : Instr} {s t : State} (hs : QueueSettled s.queue) (h : Ran i s t) :
    QueueSettled (retireNow i t).queue := by
  rw [retireNow_queue, tick_queue_of_ran hs h]
  exact queueSettled_countDown_scheduled i

/-! ## After an effect -/

theorem exec_next_cases {i : Instr} {s t : State} (h : exec i s = .next t) :
    Ran i s t ∨ ∃ e, CanRaise i e ∧ t = s.raise e := by
  obtain ⟨u, hu, hc⟩ := exec_completes i s
  rw [hu] at h
  cases h
  exact hc

/-- An effect that raises nothing leaves Running or, where it is STOP, Stopped. -/
theorem isTerminated_of_ran {i : Instr} {s t : State} (hs : s.run = .running) (h : Ran i s t) :
    t.run.isTerminated = false := by
  rw [h.run, hs]
  cases isStop i
  · rfl
  · rfl

theorem retire_of_isTerminated_false {i : Instr} {t : State} (h : t.run.isTerminated = false) :
    retire i t = retireNow i t :=
  retire_of_not_terminated fun e he => by rw [he] at h; cases h

/-! ## The invariant -/

theorem inv_advancePc {s : State} (n : Nat) (h : s.Inv) : (s.advancePc n).Inv := ⟨h.memWf, h.fLow, h.queueSettled⟩

/-- Of the invariant a fatal error needs the queue alone: the free memory is a memory of the bus, and F is masked (R23, R60,
R310). -/
theorem inv_raise {s : State} (e : FatalError) (h : QueueSettled s.queue) : (s.raise e).Inv :=
  ⟨wf_ofWrites _, f_low _, h⟩

theorem inv_retireNow {i : Instr} {s t : State} (hs : s.Inv) (h : Ran i s t) : (retireNow i t).Inv := by
  obtain ⟨hmem, -, -, -, -, hf, -⟩ := retireNow_frame i t
  obtain ⟨-, -, -, -, -, -, htick⟩ := tick_frame t
  exact ⟨hmem ▸ htick (h.memWf hs.memWf), hf ▸ h.fLow hs.fLow, queueSettled_retireNow hs.queueSettled h⟩

/-! ## The retirement counter -/

/-- A step retires its instruction, or ends in a fatal error and does not (R43, R100). -/
theorem step_retired_cases {s t : State} (h : step s = .next t) :
    (t.run.isTerminated = false ∧ t.retired = s.retired + 1) ∨ (t.run.isTerminated = true ∧ t.retired = s.retired) := by
  obtain ⟨hrun, ⟨u, -, hu, rfl⟩ | ⟨e, -, rfl⟩⟩ := step_cases h
  · have hpast : (s.advancePc (fetch s).keyLength).run = .running := hrun
    obtain ⟨-, -, hr, hret, -⟩ := retireNow_frame (fetch s) u
    refine .inl ⟨?_, ?_⟩
    · rw [hr]
      exact isTerminated_of_ran hpast hu
    · rw [hret, hu.retired, State.advancePc_retired]
  · exact .inr ⟨rfl, rfl⟩

/-! ## The obligations -/

/-- Settles O58, by the inversion of `step`: the instruction retired, or a fatal error was entered. -/
theorem stepKeepsInvariant : Obligations.StepKeepsInvariant := by
  intro s t hs h
  have hpc := inv_advancePc (fetch s).keyLength hs
  obtain ⟨-, ⟨u, -, hu, rfl⟩ | ⟨e, -, rfl⟩⟩ := step_cases h
  · exact inv_retireNow hpc hu
  · exact inv_raise e hpc.queueSettled

/-- Settles O49: an effect adds at most one entry to the settled queue, and the tick at retirement takes the old one out. -/
theorem queueHoldsAtMostTwo : Obligations.QueueHoldsAtMostTwo := by
  intro i s t hrun hs h
  have hold : QueueSettled s.queue := hs.queueSettled
  have hone := hold.length_le_one
  obtain ht | ⟨e, -, rfl⟩ := exec_next_cases h
  · refine ⟨?_, ?_⟩
    · have hadd := length_scheduled_le_one i
      rw [ht.queue, List.length_append]
      omega
    · rw [retire_of_isTerminated_false (isTerminated_of_ran hrun ht)]
      exact (queueSettled_retireNow hold ht).length_le_one
  · rw [retire_raise, State.raise_queue]
    exact ⟨Nat.le_succ_of_le hone, hone⟩

/-- Settles O57: the call comes with a counted step whose count the period divides, and a step that raises counts nothing. -/
theorem retiredCountsCompletedSteps : Obligations.RetiredCountsCompletedSteps := by
  refine ⟨Nat.succ_pos _, fun s t h => ?_, fun s h => renderCallAt_of_not_running _ h⟩
  rw [State.renderCall, renderCallAt_of_next _ h]
  obtain ⟨hrun, hret⟩ | ⟨hrun, hret⟩ := step_retired_cases h
  · simp [hrun, hret, Nat.dvd_iff_mod_eq_zero]
  · simp [hrun, hret]

end Sys2Proof.Proofs

namespace Sys2Proof.Proofs

open Sys2Proof Sys2Proof.Machine Sys2Proof.Laws

/-! ## The pairs (R22, R23) -/

theorem getLsbD_wordOf (hi lo : Byte) (i : Nat) :
    (wordOf hi lo).getLsbD i = if i < 8 then lo.getLsbD i else hi.getLsbD (i - 8) := by
  rw [← BitVec.testBit_toNat, wordOf_toNat, Nat.mul_comm]
  exact Nat.testBit_two_pow_mul_add hi.toNat lo.isLt i

theorem wordOf_and (hi lo hi' lo' : Byte) : wordOf hi lo &&& wordOf hi' lo' = wordOf (hi &&& hi') (lo &&& lo') := by
  apply BitVec.eq_of_getLsbD_eq
  intro i _
  simp only [BitVec.getLsbD_and, getLsbD_wordOf]
  split <;> rfl

/-- F's mask, seen from the word written to AF: the low four bits are dropped (R23). -/
theorem wordOf_hiByte_loByte_masked (v : Word) : wordOf (hiByte v) (loByte v &&& 0xF0#8) = v &&& 0xFFF0#16 := by
  have hmask : (0xFFF0#16 : Word) = wordOf 0xFF#8 0xF0#8 := rfl
  have hhi : hiByte v &&& 0xFF#8 = hiByte v := BitVec.and_allOnes
  calc wordOf (hiByte v) (loByte v &&& 0xF0#8)
      = wordOf (hiByte v) (loByte v) &&& wordOf 0xFF#8 0xF0#8 := by rw [wordOf_and, hhi]
    _ = v &&& 0xFFF0#16 := by rw [wordOf_hiByte_loByte, hmask]

theorem rp_setRp (s : State) (p : Rp) (v : Word) : (s.setRp p v).rp p = v := by
  cases p
  · exact wordOf_hiByte_loByte v
  · exact wordOf_hiByte_loByte v
  · exact wordOf_hiByte_loByte v
  · rfl

theorem af_setAf (s : State) (v : Word) : (s.setAf v).af = v &&& 0xFFF0#16 := wordOf_hiByte_loByte_masked v

/-! ## What the state's updates leave unchanged -/

theorem onlyWrites_setQueue (s : State) (q : List Deferred) : OnlyWrites [.queue] [] s (s.setQueue q) where
  reg8 r _ := State.setQueue_reg8 s q r
  f _ := rfl
  sp _ := rfl
  pc _ := rfl
  mem _ _ := rfl
  queue h := absurd List.mem_cons_self h
  run _ := rfl
  retired := rfl
  freeDraws := rfl

theorem onlyWrites_setRun (s : State) (r : RunState) : OnlyWrites [.run] [] s (s.setRun r) where
  reg8 x _ := State.setRun_reg8 s r x
  f _ := rfl
  sp _ := rfl
  pc _ := rfl
  mem _ _ := rfl
  queue _ := rfl
  run h := absurd List.mem_cons_self h
  retired := rfl
  freeDraws := rfl

/-! ## The deferred-action queue (R40, R41) -/

theorem schedule_of_nonpos {n : Int} (act : DeferredEffect) (s : State) (h : n ≤ 0) :
    schedule n act s = .error (.invalidDeferredAction n) := if_pos h

theorem schedule_of_pos {n : Int} (act : DeferredEffect) (s : State) (h : 0 < n) :
    schedule n act s = .ok (s.setQueue (s.queue ++ [⟨n.toNat, act⟩])) := if_neg (Int.not_le.mpr h)

/-- The entries that reach 0 at the next tick. -/
def due (q : List Deferred) : List Deferred := (countDown q).filter fun e => e.countdown == 0

theorem tick_eq_fireAll_due (s : State) :
    tick s = fireAll (due s.queue) (s.setQueue ((countDown s.queue).filter fun e => e.countdown != 0)) := rfl

theorem due_append (p q : List Deferred) : due (p ++ q) = due p ++ due q := by
  simp only [due, countDown, List.map_append, List.filter_append]

theorem due_cons_one (effect : DeferredEffect) (q : List Deferred) : due (⟨1, effect⟩ :: q) = ⟨0, effect⟩ :: due q := rfl

theorem due_eq_nil {q : List Deferred} (hpos : ∀ e ∈ q, 0 < e.countdown) (hne : ∀ e ∈ q, e.countdown ≠ 1) :
    due q = [] := by
  rw [due, countDown, List.filter_map, List.map_eq_nil_iff, List.filter_eq_nil_iff]
  intro e he
  have h0 := hpos e he
  have h1 := hne e he
  simp only [Function.comp_apply, beq_iff_eq]
  omega

/-- Of positive countdowns exactly those at 1 reach 0. -/
theorem filter_countDown_ne_zero {q : List Deferred} (hpos : ∀ e ∈ q, 0 < e.countdown) :
    (countDown q).filter (fun e => e.countdown != 0) = countDown (q.filter fun e => e.countdown != 1) := by
  rw [countDown, List.filter_map, countDown]
  congr 1
  refine List.filter_congr fun e he => ?_
  have h0 := hpos e he
  rw [Bool.eq_iff_iff]
  simp only [Function.comp_apply, bne_iff_ne]
  omega

/-- The last entry to fire leaves its value in IE (D23). -/
theorem fireAll_concat (q : List Deferred) (e : Deferred) (s : State) :
    fireAll (q ++ [e]) s = (fireAll q s).write8 addrIE e.effect.ieValue := by
  induction q generalizing s with
  | nil => rfl
  | cons d rest ih => exact ih _

theorem tick_reg8 (s : State) (r : Reg8) : (tick s).reg8 r = s.reg8 r := by
  obtain ⟨hregs, -⟩ := tick_frame s
  cases r <;> simp only [State.reg8, hregs]

theorem onlyWrites_tick (s : State) : OnlyWrites [.queue] [addrIE] s (tick s) := by
  obtain ⟨hregs, hrun, hretired, hdraws, -, hmem, -⟩ := tick_frame s
  exact {
    reg8 := fun r _ => tick_reg8 s r
    f := fun _ => congrArg RegFile.f hregs
    sp := fun _ => congrArg RegFile.sp hregs
    pc := fun _ => congrArg RegFile.pc hregs
    mem := fun a ha => hmem a (ha addrIE (List.mem_singleton_self _))
    queue := fun h => absurd List.mem_cons_self h
    run := fun _ => hrun
    retired := hretired
    freeDraws := hdraws }

theorem onlyWrites_tick_of_due_eq_nil {s : State} (h : due s.queue = []) : OnlyWrites [.queue] [] s (tick s) := by
  rw [tick_eq_fireAll_due, h]
  exact onlyWrites_setQueue s _

theorem tick_read8_addrIE {s : State} {q : List Deferred} {effect : DeferredEffect}
    (h : due s.queue = q ++ [⟨0, effect⟩]) : (tick s).read8 addrIE = effect.ieValue := by
  rw [tick_eq_fireAll_due, h, fireAll_concat, read8_write8, if_pos rfl]

/-! ## Which steps exist (R42, R100) -/

theorem step_of_running {s : State} (h : s.run = .running) : step s = runInstr (fetch s) s := by
  simp only [step, h]

theorem step_of_stopped {s : State} (h : s.run = .stopped) : step s = .fault .stoppedUntilWake := by
  simp only [step, h]

theorem step_of_terminated {s : State} {e : FatalError} (h : s.run = .terminated e) :
    step s = .fault (.terminated e) := by
  simp only [step, h]

/-- The loop around an effect: the operand read raises, or the effect runs and retires (R95, R100). -/
theorem runInstr_eq (i : Instr) (s : State) :
    runInstr i s =
      if i.operands.length = 2 ∧ (s.advancePc i.keyLength).regs.pc = 0xFFFF#16 then
        .next ((s.advancePc i.keyLength).raise (.addressOutOfRange 0xFFFF))
      else retireResult i (exec i (s.advancePc i.keyLength)) := by
  simp only [runInstr, operandRead_eq]
  by_cases h : i.operands.length = 2 ∧ (s.advancePc i.keyLength).regs.pc = 0xFFFF#16
  · rw [if_pos h, if_pos h]
  · rw [if_neg h, if_neg h]

/-- Every instruction has a next state: a fatal error is one too. -/
theorem runInstr_next (i : Instr) (s : State) : ∃ t, runInstr i s = .next t := by
  obtain ⟨u, hu, -⟩ := exec_completes i (s.advancePc i.keyLength)
  rw [runInstr_eq, hu]
  split
  · exact ⟨_, rfl⟩
  · exact ⟨retire i u, rfl⟩

theorem wake_of_stopped {s : State} (h : s.run = .stopped) : s.wake = some (s.setRun .running) := by
  simp only [State.wake, h]

theorem wake_of_not_stopped {s : State} (h : s.run ≠ .stopped) : s.wake = none := by
  unfold State.wake
  split
  · rename_i hs
    exact absurd hs h
  · rfl
  · rfl

/-! ## Instructions without a 16-bit immediate: the operand read cannot fail (R95) -/

theorem runInstr_of_operands_lt_two {i : Instr} (s : State) (h : i.operands.length < 2) :
    runInstr i s = retireResult i (exec i (s.advancePc i.keyLength)) := by
  rw [runInstr_eq, if_neg fun hc => Nat.ne_of_lt h hc.1]

/-- A STOP step retires in Stopped (R284). -/
theorem step_of_stop {s : State} {n : Byte} (hrun : s.run = .running) (hf : fetch s = .stop n) :
    step s = .next (retireNow (.stop n) ((s.advancePc 1).setRun .stopped)) := by
  have hops : (Instr.stop n).operands.length < 2 := Nat.one_lt_two
  rw [step_of_running hrun, hf, runInstr_of_operands_lt_two s hops]
  rfl

/-- An instruction whose whole effect is a fatal error ends the run (R302, R309, R311). -/
theorem step_of_exec_raises {s : State} {i : Instr} {e : FatalError} (hrun : s.run = .running) (hf : fetch s = i)
    (hops : i.operands.length < 2) (hexec : ∀ t, exec i t = .next (t.raise e)) :
    ∃ t, step s = .next t ∧ Raised e s t ∧ step t = .fault (.terminated e) := by
  refine ⟨(s.advancePc i.keyLength).raise e, ?_, ⟨rfl, rfl, rfl⟩, step_of_terminated rfl⟩
  rw [step_of_running hrun, hf, runInstr_of_operands_lt_two s hops, hexec]
  exact congrArg _ (retire_raise i _ e)

theorem decodeBytes_of_undefinedPlainKey {key : Byte} (b1 b2 : Byte) (h : undefinedPlainKeys.contains key = true) :
    decodeBytes key b1 b2 = .undefinedKey key := by
  rcases undefinedPlainKeys_cases h with rfl | rfl | rfl | rfl | rfl | rfl | rfl | rfl | rfl | rfl <;> rfl

theorem decodeBytes_escape_ED (b1 b2 : Byte) : decodeBytes 0xED#8 b1 b2 = .escape_ED b1 := rfl

theorem isStop_iff (i : Instr) : isStop i = true ↔ ∃ n, i = .stop n := by
  refine ⟨fun h => ?_, fun ⟨n, hn⟩ => by rw [hn]; rfl⟩
  unfold isStop at h
  split at h
  · exact ⟨_, rfl⟩
  · cases h

/-! ## The length in memory (R98, R106) -/

/-- `byte_length` counts the key once, and each operand byte (R98). -/
theorem byteLength_eq_one_add_operands (i : Instr) : i.byteLength = 1 + i.operands.length := by
  cases i <;> rfl

theorem length_eq_keyLength_add (i : Instr) : i.length = i.keyLength + (i.byteLength - 1) := by
  have := byteLength_eq_one_add_operands i
  unfold Instr.length
  omega

/-! ## The obligations on the registers, the queue and the run state -/

/-- Settles O45, by the STOP step with its tick of an empty queue. -/
theorem stopWaitsForWake : Obligations.StopWaitsForWake := by
  refine ⟨fun s n hrun hq hf => ?_, fun s => ⟨fun h => ?_, wake_of_not_stopped⟩⟩
  · obtain ⟨hmem, -, hstopped, hret, -, -, -, -, hpc⟩ := retireNow_frame (.stop n) ((s.advancePc 1).setRun .stopped)
    rw [tick_empty (s := (s.advancePc 1).setRun .stopped) hq] at hmem
    refine ⟨_, step_of_stop hrun hf, hstopped, ?_, hret, fun a => read8_of_mem_eq hmem a, step_of_stopped hstopped, _,
      wake_of_stopped hstopped⟩
    rw [hpc]
    exact BitVec.add_assoc s.regs.pc 1#16 1#16
  · exact ⟨_, wake_of_stopped h, rfl, onlyWrites_setRun s _⟩

/-- Settles O47, by the entries due at the tick: none with no entry at 1, and the last entry at 1 is the last of them. -/
theorem tickFiresAtZero : Obligations.TickFiresAtZero := by
  intro s hpos
  refine ⟨?_, onlyWrites_tick s, fun hne => onlyWrites_tick_of_due_eq_nil (due_eq_nil hpos hne), ?_⟩
  · rw [tick_queue, filter_countDown_ne_zero hpos]
    rfl
  · intro before after effect hq hne
    have hafter : due after = [] := due_eq_nil (fun e he => hpos e (by simp [hq, he])) hne
    have hdue : due s.queue = due before ++ [⟨0, effect⟩] := by rw [hq, due_append, due_cons_one, hafter]
    rw [tick_read8_addrIE hdue]
    cases effect
    · rfl
    · rfl

/-- Settles O51, by the run state the effect left. -/
theorem retireFollowsTheLoop : Obligations.RetireFollowsTheLoop := by
  refine fun i t => ⟨fun h => ?_, fun h => ?_⟩
  · unfold retire
    split
    · rfl
    · rename_i hr
      rw [hr] at h
      cases h
    · rename_i hr
      rw [hr] at h
      cases h
  · rw [retire_of_isTerminated_false h]
    obtain ⟨hmem, hqueue, hrun, hret, -, hf, hsp, hreg8, hpc⟩ := retireNow_frame i t
    exact ⟨hqueue, read8_of_mem_eq hmem, hpc, hreg8, hf, hsp, hrun, hret⟩

/-- Settles O52: an undefined byte and the escape decode to instructions whose whole effect is the error. -/
theorem undefinedOpcodeIsFatal : Obligations.UndefinedOpcodeIsFatal := by
  refine fun s hrun => ⟨fun hkey => ?_, fun hed => ⟨rfl, ?_⟩⟩
  · exact step_of_exec_raises hrun (decodeBytes_of_undefinedPlainKey _ _ hkey) Nat.zero_lt_two fun _ => rfl
  · have hf : fetch s = .escape_ED (s.read8 (s.regs.pc + 1#16)) := by
      rw [fetch, hed, decodeBytes_escape_ED]
    exact step_of_exec_raises hrun hf Nat.zero_lt_two fun _ => rfl

/-- Settles O55: a completed effect changes `run` only for STOP, and a STOP step always completes. -/
theorem onlyStopStops : Obligations.OnlyStopStops := by
  intro s t h
  obtain ⟨hrun, hcases⟩ := step_cases h
  refine ⟨fun hstopped => ?_, fun ⟨n, hf⟩ => ?_⟩
  · obtain ⟨u, -, hu, rfl⟩ | ⟨e, -, rfl⟩ := hcases
    · obtain ⟨-, -, hr, -⟩ := retireNow_frame (fetch s) u
      rw [hr, hu.run, State.advancePc_run, hrun] at hstopped
      refine (isStop_iff _).mp ?_
      by_contra hn
      rw [if_neg hn] at hstopped
      cases hstopped
    · cases hstopped
  · rw [step_of_stop hrun hf] at h
    cases h
    obtain ⟨-, -, hr, -⟩ := retireNow_frame (.stop n) ((s.advancePc 1).setRun .stopped)
    exact hr

/-- Settles O56: pc moves past the key, stays through the effect, and moves past the operands at retirement. -/
theorem pcAdvancesByLength : Obligations.PcAdvancesByLength := by
  intro s t h hterm howns
  obtain ⟨-, ⟨u, -, hu, rfl⟩ | ⟨e, -, rfl⟩⟩ := step_cases h
  · obtain ⟨-, -, -, -, -, -, -, -, hpc⟩ := retireNow_frame (fetch s) u
    rw [hpc, howns, if_neg Bool.false_ne_true, hu.pc howns, State.advancePc_pc, length_eq_keyLength_add,
      BitVec.ofNat_add, BitVec.add_assoc]
  · cases hterm

/-- Settles O13, by the bytes of a word. -/
theorem pairsReadBack : Obligations.PairsReadBack := by
  intro s v
  have hword (hi lo : Byte) : (wordOf hi lo).toNat = 256 * hi.toNat + lo.toNat := by rw [wordOf_toNat, Nat.mul_comm]
  exact ⟨hword _ _, hword _ _, hword _ _, hword _ _, fun p => rp_setRp s p v, af_setAf s v, rfl, rfl, rfl, rfl, rfl, rfl,
    rfl, rfl⟩

/-- Settles O46. -/
theorem scheduleValidatesCountdown : Obligations.ScheduleValidatesCountdown := fun _ act s =>
  ⟨schedule_of_nonpos act s, fun h => ⟨_, schedule_of_pos act s h, rfl, onlyWrites_setQueue s _⟩⟩

/-- Settles O53: in Running every instruction has a next state, and `step_cases` says the converse. -/
theorem noStepUnlessRunning : Obligations.NoStepUnlessRunning := by
  refine fun s => ⟨⟨fun h => ?_, fun ⟨t, ht⟩ => (step_cases ht).1⟩, step_of_stopped, fun e => step_of_terminated⟩
  rw [step_of_running h]
  exact runInstr_next (fetch s) s

/-- Settles O59, by evaluating the reset state; its memory lists no cell, so every byte reads as the unlisted value. -/
theorem resetState : Obligations.ResetState :=
  ⟨⟨rfl, rfl, .inl rfl⟩, rfl, rfl, rfl, rfl, rfl, rfl, rfl, rfl, rfl, rfl, fun _ => rfl, rfl, rfl, rfl⟩

end Sys2Proof.Proofs

namespace Sys2Proof.Proofs

open Sys2Proof Sys2Proof.Machine Sys2Proof.Laws

/-! ## The bus in range and out of range (R61) -/

section Bus

variable {a : Int}

theorem readByte_in_range (m : Memory) (h : 0 ≤ a ∧ a ≤ 65535) :
    m.readByte a = .ok (m.cell (canon a.toNat)) := if_pos h

theorem readByte_out_of_range (m : Memory) (h : ¬(0 ≤ a ∧ a ≤ 65535)) :
    m.readByte a = .error (.addressOutOfRange a) := if_neg h

theorem writeByte_in_range (m : Memory) (v : Int) (h : 0 ≤ a ∧ a ≤ 65535) : ∃ m', m.writeByte a v = .ok m' :=
  ⟨_, if_pos h⟩

theorem writeByte_out_of_range (m : Memory) (v : Int) (h : ¬(0 ≤ a ∧ a ≤ 65535)) :
    m.writeByte a v = .error (.addressOutOfRange a) := if_neg h

theorem readWord_in_range (m : Memory) (h : 0 ≤ a ∧ a ≤ 65534) :
    m.readWord a = .ok (wordOf (m.cell (canon (a.toNat + 1))) (m.cell (canon a.toNat))) := if_pos h

theorem readWord_out_of_range (m : Memory) (h : ¬(0 ≤ a ∧ a ≤ 65534)) :
    m.readWord a = .error (.addressOutOfRange a) := if_neg h

theorem writeWord_in_range (m : Memory) (v : Word) (h : 0 ≤ a ∧ a ≤ 65534) : ∃ m', m.writeWord a v = .ok m' :=
  ⟨_, if_pos h⟩

theorem writeWord_out_of_range (m : Memory) (v : Word) (h : ¬(0 ≤ a ∧ a ≤ 65534)) :
    m.writeWord a v = .error (.addressOutOfRange a) := if_neg h

/-! ## The cells after a write (R64, R66) -/

theorem cell_of_writeByte {m m' : Memory} {v : Int} (h : m.writeByte a v = .ok m') (c : Nat) :
    m'.cell c = if canon a.toNat = c then BitVec.ofInt 8 v else m.cell c := by
  unfold Memory.writeByte at h
  split at h
  · cases h
    exact cell_setCell m _ c _
  · cases h

theorem cell_of_writeWord {m m' : Memory} {v : Word} (h : m.writeWord a v = .ok m') (c : Nat) :
    m'.cell c =
      if canon (a.toNat + 1) = c then hiByte v else if canon a.toNat = c then loByte v else m.cell c := by
  unfold Memory.writeWord at h
  split at h
  · cases h
    rw [cell_setCell, cell_setCell]
  · cases h

end Bus

theorem wordOf_eq_ofNat (hi lo : Byte) : wordOf hi lo = BitVec.ofNat 16 (lo.toNat + 256 * hi.toNat) := by
  rw [wordOf, Nat.add_comm, Nat.mul_comm]

theorem loByte_eq_ofNat (v : Word) : loByte v = BitVec.ofNat 8 v.toNat := by
  apply BitVec.eq_of_toNat_eq
  rw [loByte_toNat, BitVec.toNat_ofNat]

/-! ## Signed values (R11, R68) -/

theorem signed8_eq_toInt (v : Byte) : signed8 v = v.toInt := by
  rw [signed8, BitVec.toInt_eq_toNat_cond]
  split <;> split <;> omega

theorem sext16_toNat (v : Byte) : (sext16 v).toNat = if v.toNat < 0x80 then v.toNat else v.toNat + 0xFF00 := by
  have hmod : v.toNat % 2 ^ 16 = v.toNat := Nat.mod_eq_of_lt (Nat.lt_trans v.isLt (by decide))
  rw [sext16, BitVec.toNat_signExtend, BitVec.msb_eq_decide, BitVec.toNat_setWidth, hmod]
  by_cases h : v.toNat < 0x80
  · rw [if_pos h, if_neg (by simpa using h), Nat.add_zero]
  · rw [if_neg h, if_pos (by simpa using h)]

theorem readSigned8_of_readByte {m : Memory} {a : Int} {v : Byte} (h : m.readByte a = .ok v) :
    m.readSigned8 a = .ok v.toInt := by
  rw [Memory.readSigned8, h, ← signed8_eq_toInt]

theorem readSigned16_of_readWord {m : Memory} {a : Int} {v : Word} (h : m.readWord a = .ok v) :
    m.readSigned16 a = .ok v.toInt := by
  have hsigned : (if v.toNat < 0x8000 then (v.toNat : Int) else v.toNat - 0x10000) = v.toInt := by
    rw [BitVec.toInt_eq_toNat_cond]
    split <;> split <;> omega
  rw [Memory.readSigned16, h, ← hsigned]

/-! ## The canonical form determines the memory -/

theorem wfFrom_cons_iff {lo k : Nat} {v : Byte} {rest : Memory} :
    Memory.wfFrom lo ((k, v) :: rest) = true ↔
      lo ≤ k ∧ isCell k = true ∧ v ≠ Memory.unlisted ∧ Memory.wfFrom (k + 1) rest = true := by
  simp only [Memory.wfFrom, Bool.and_eq_true, decide_eq_true_eq, bne_iff_ne, and_assoc]

theorem cell_cons_self (k : Nat) (v : Byte) (rest : Memory) : Memory.cell ((k, v) :: rest) k = v := if_pos rfl

theorem cell_cons_of_ne {k b : Nat} (v : Byte) (rest : Memory) (h : k ≠ b) :
    Memory.cell ((k, v) :: rest) b = Memory.cell rest b := if_neg h

/-- A number that names no cell of its own is not listed. -/
theorem cell_of_not_isCell {m : Memory} {lo b : Nat} (h : Memory.wfFrom lo m = true) (hb : isCell b ≠ true) :
    m.cell b = Memory.unlisted := by
  induction m generalizing lo with
  | nil => rfl
  | cons e rest ih =>
    obtain ⟨k, v⟩ := e
    obtain ⟨-, hk, -, hrest⟩ := wfFrom_cons_iff.mp h
    have hne : k ≠ b := fun hkb => hb (hkb ▸ hk)
    rw [cell_cons_of_ne v rest hne]
    exact ih hrest

theorem peek_ofNat_of_isCell (m : Memory) {b : Nat} (hb : isCell b = true) : m.peek (BitVec.ofNat 16 b) = m.cell b := by
  simp only [isCell, Bool.and_eq_true, decide_eq_true_eq, beq_iff_eq] at hb
  obtain ⟨hle, hcanon⟩ := hb
  rw [Memory.peek, BitVec.toNat_ofNat, Nat.mod_eq_of_lt (Nat.lt_succ_of_le hle), hcanon]

theorem cell_eq_of_peek_eq {m m' : Memory} (h : m.wf = true) (h' : m'.wf = true) (hp : ∀ a, m.peek a = m'.peek a)
    (b : Nat) : m.cell b = m'.cell b := by
  by_cases hb : isCell b = true
  · rw [← peek_ofNat_of_isCell m hb, ← peek_ofNat_of_isCell m' hb, hp]
  · rw [cell_of_not_isCell h hb, cell_of_not_isCell h' hb]

/-- Of two canonical memories with the same cells neither lists its first cell below the other's. -/
theorem head_le_of_cell_eq {lo k : Nat} {v : Byte} {rest m' : Memory} (h : Memory.wfFrom lo m' = true)
    (hv : v ≠ Memory.unlisted) (hc : ∀ b, Memory.cell ((k, v) :: rest) b = m'.cell b) : lo ≤ k := by
  by_contra hlt
  rw [← cell_cons_self k v rest, hc k, cell_of_wfFrom_lt h (Nat.lt_of_not_le hlt)] at hv
  exact hv rfl

theorem wfFrom_head_self {lo k : Nat} {v : Byte} {rest : Memory} (h : Memory.wfFrom lo ((k, v) :: rest) = true) :
    Memory.wfFrom k ((k, v) :: rest) = true := by
  obtain ⟨-, hrest⟩ := wfFrom_cons_iff.mp h
  exact wfFrom_cons_iff.mpr ⟨Nat.le_refl k, hrest⟩

/-- The first cells agree, since each is listed by the other memory; then so do the rests. -/
theorem eq_of_wfFrom_of_cell_eq {m m' : Memory} {lo lo' : Nat} (h : Memory.wfFrom lo m = true)
    (h' : Memory.wfFrom lo' m' = true) (hc : ∀ b, m.cell b = m'.cell b) : m = m' := by
  induction m generalizing m' lo lo' with
  | nil =>
    cases m' with
    | nil => rfl
    | cons e' rest' =>
      obtain ⟨-, -, hv', -⟩ := wfFrom_cons_iff.mp h'
      exact absurd ((cell_cons_self e'.1 e'.2 rest').symm.trans (hc e'.1).symm) hv'
  | cons e rest ih =>
    obtain ⟨k, v⟩ := e
    obtain ⟨-, -, hv, hrest⟩ := wfFrom_cons_iff.mp h
    cases m' with
    | nil => exact absurd ((cell_cons_self k v rest).symm.trans (hc k)) hv
    | cons e' rest' =>
      obtain ⟨k', v'⟩ := e'
      obtain ⟨-, -, hv', hrest'⟩ := wfFrom_cons_iff.mp h'
      have hk : k = k' := Nat.le_antisymm (head_le_of_cell_eq (wfFrom_head_self h) hv' fun b => (hc b).symm)
        (head_le_of_cell_eq (wfFrom_head_self h') hv hc)
      subst hk
      have hvv : v = v' := by rw [← cell_cons_self k v rest, hc k, cell_cons_self]
      have hcells (b : Nat) : Memory.cell rest b = Memory.cell rest' b := by
        by_cases hb : k = b
        · rw [cell_of_wfFrom_lt hrest (by omega), cell_of_wfFrom_lt hrest' (by omega)]
        · rw [← cell_cons_of_ne v rest hb, hc b, cell_cons_of_ne v' rest' hb]
      rw [hvv, ih hrest hrest' hcells]

/-! ## The obligations on the memory bus -/

/-- Settles O8, by the one cell that the write sets. -/
theorem byteWriteChangesOneCell : Obligations.ByteWriteChangesOneCell := by
  intro m a v b ha0 ha1 hb0 hb1
  obtain ⟨m', hw⟩ := writeByte_in_range m v ⟨ha0, ha1⟩
  refine ⟨m', hw, ?_⟩
  rw [readByte_in_range m' ⟨hb0, hb1⟩, readByte_in_range m ⟨hb0, hb1⟩, cell_of_writeByte hw]
  by_cases hc : canon b.toNat = canon a.toNat
  · rw [if_pos hc, if_pos hc.symm]
  · rw [if_neg hc, if_neg (Ne.symm hc)]

/-- Settles O10: the two bytes of a word are never one cell, so the second write keeps the first. -/
theorem wordsAreLittleEndian : Obligations.WordsAreLittleEndian := by
  intro m a v h0 h1
  have hread (n : Memory) : n.readByte a = .ok (n.cell (canon a.toNat)) := readByte_in_range n ⟨h0, by omega⟩
  have hnext (n : Memory) : n.readByte (a + 1) = .ok (n.cell (canon (a.toNat + 1))) := by
    have hsucc : (a + 1).toNat = a.toNat + 1 := by omega
    rw [readByte_in_range n (by omega), hsucc]
  obtain ⟨m', hw⟩ := writeWord_in_range m v ⟨h0, h1⟩
  have hhigh : m'.cell (canon (a.toNat + 1)) = hiByte v := by rw [cell_of_writeWord hw, if_pos rfl]
  have hlow : m'.cell (canon a.toNat) = loByte v := by
    rw [cell_of_writeWord hw, if_neg (canon_ne_succ rfl).symm, if_pos rfl]
  refine ⟨⟨_, _, hread m, hnext m, ?_⟩, m', hw, ?_, ?_, ?_, ?_⟩
  · rw [readWord_in_range m ⟨h0, h1⟩, wordOf_eq_ofNat]
  · rw [readWord_in_range m' ⟨h0, h1⟩, hhigh, hlow, wordOf_hiByte_loByte]
  · rw [hread, hlow, loByte_eq_ofNat]
  · rw [hnext, hhigh, hiByte]
  · intro b hb0 hb1 hne hne'
    rw [readByte_in_range m' ⟨hb0, hb1⟩, readByte_in_range m ⟨hb0, hb1⟩, cell_of_writeWord hw, if_neg hne'.symm,
      if_neg hne.symm]

/-- Settles O11: reads alike give the same cells, and the sorted list of listed cells is determined by them. -/
theorem canonicalFormIsKeptAndUnique : Obligations.CanonicalFormIsKeptAndUnique :=
  ⟨fun _ _ _ _ _ h => ⟨wf_writeByte h, wf_writeWord h⟩,
    fun _ _ h h' hp => eq_of_wfFrom_of_cell_eq h h' (cell_eq_of_peek_eq h h' hp)⟩

/-- Settles O7. -/
theorem busAccessBounds : Obligations.BusAccessBounds := fun m _ v w =>
  ⟨fun h => ⟨⟨_, readByte_in_range m h⟩, writeByte_in_range m v h⟩,
    fun h => ⟨readByte_out_of_range m h, writeByte_out_of_range m v h⟩,
    fun h => ⟨⟨_, readWord_in_range m h⟩, writeWord_in_range m w h⟩,
    fun h => ⟨readWord_out_of_range m h, writeWord_out_of_range m w h⟩⟩

/-- Settles O9, by whether each of the two addresses lies in the echo. -/
theorem echoMirrorsWorkRam : Obligations.EchoMirrorsWorkRam := by
  intro a b _ _
  unfold canon
  split <;> split <;> omega

/-- Settles O12. -/
theorem signedReadsAreTwosComplement : Obligations.SignedReadsAreTwosComplement :=
  ⟨fun v => ⟨signed8_eq_toInt v, sext16_toNat v⟩, fun _ _ _ => readSigned8_of_readByte,
    fun _ _ _ => readSigned16_of_readWord⟩

end Sys2Proof.Proofs

namespace Sys2Proof.Proofs

open Sys2Proof Sys2Proof.Machine Sys2Proof.Laws

/-! ## The bytes of an instruction (R90, R95, R98) -/

theorem one_le_keyLength (i : Instr) : 1 ≤ i.keyLength := by
  unfold Instr.keyLength
  cases i.opcodeKey with
  | plain b => exact Nat.le_refl 1
  | extended e n => exact Nat.le_succ 1

/-- A plain key leaves room for two operand bytes, a two-byte key for none. -/
theorem two_mul_keyLength_add_operands_le (i : Instr) : 2 * i.keyLength + i.operands.length ≤ 4 := by
  cases i <;> exact Nat.le_of_ble_eq_true rfl

theorem length_eq_encode_length (i : Instr) : i.length = (encode i).length := by
  rw [length_eq_keyLength_add, byteLength_eq_one_add_operands, Nat.add_sub_cancel_left, encode, List.length_append]
  rfl

theorem keyLength_eq_one_of_word {i : Instr} (h : i.operands.length = 2) : i.keyLength = 1 := by
  have hpos := one_le_keyLength i
  have hroom := two_mul_keyLength_add_operands_le i
  omega

/-! ## Decoding an encoding -/

theorem dropBytes_append (taken rest : List Byte) : dropBytes taken.length (taken ++ rest) = some rest := by
  induction taken with
  | nil => cases rest <;> rfl
  | cons b taken ih => exact ih

/-- A decoded 16-bit immediate stands for the word whose bytes were encoded (R95). -/
theorem eq_of_immediate {make : Word → Instr} {i : Instr} {n : Word}
    (h : i = make (wordOf (hiByte n) (loByte n))) : i = make n := by
  rw [h, immediate_of_bytes]

/-- The instruction that a key begins, read with the bytes after the key. -/
def decodeKey : OpcodeKey → List Byte → Instr
  | .plain key, after => decodeBytes key (after.getD 0 0) (after.getD 1 0)
  | .extended escape next, after => decodeBytes escape next (after.getD 0 0)

theorem decode_keyBytes_append {key : OpcodeKey} {after rest : List Byte} {i : Instr} (hi : decodeKey key after = i)
    (hrest : dropBytes i.length (key.bytes ++ after) = some rest) : decode (key.bytes ++ after) = .ok (i, rest) := by
  cases key with
  | plain key => exact decode_cons hi hrest
  | extended escape next => exact decode_cons hi hrest

/-- The table's key of an instruction decodes to it with its operand bytes, whatever follows. Only a 16-bit immediate is taken
apart by the encoder, and only an undefined key is not fixed by its constructor. -/
theorem decodeKey_opcodeKey {i : Instr} (rest : List Byte) (h : i.wf = true) :
    decodeKey i.opcodeKey (i.operands ++ rest) = i := by
  cases i
  case undefinedKey key => exact decodeBytes_of_undefinedPlainKey _ _ h
  case ld_BC_n16 | ld_DE_n16 | ld_HL_n16 | ld_SP_n16 | ld_ia16_SP | ld_ia16_A | ld_A_ia16 | jp_a16 | jp_NZ_a16
      | jp_Z_a16 | jp_NC_a16 | jp_C_a16 | call_a16 | call_NZ_a16 | call_Z_a16 | call_NC_a16 | call_C_a16 =>
    exact eq_of_immediate rfl
  all_goals rfl

/-- Settles O1: the table's key decodes to its instruction, and decoding drops as many bytes as were encoded. -/
theorem decodeOfEncode : Obligations.DecodeOfEncode := by
  intro i rest h
  have hrest : dropBytes i.length (encode i ++ rest) = some rest := by
    rw [length_eq_encode_length, dropBytes_append]
  rw [encode, List.append_assoc] at hrest ⊢
  exact decode_keyBytes_append (decodeKey_opcodeKey rest h) hrest

/-! ## Encoding what was decoded -/

/-- A key by its fields x, y and z (R92). -/
def keyOfFields (x : Fin 4) (y z : Fin 8) : Byte := BitVec.ofNat 8 (64 * x + 8 * y + z)

theorem keyOfFields_toNat (x : Fin 4) (y z : Fin 8) : (keyOfFields x y z).toNat = 64 * x + 8 * y + z := by
  rw [keyOfFields, BitVec.toNat_ofNat]
  omega

theorem exists_keyOfFields (key : Byte) : ∃ x y z, key = keyOfFields x y z := by
  have hkey := key.isLt
  refine ⟨⟨key.toNat / 64, by omega⟩, ⟨key.toNat / 8 % 8, by omega⟩, ⟨key.toNat % 8, by omega⟩, ?_⟩
  apply BitVec.eq_of_toNat_eq
  rw [keyOfFields_toNat]
  show key.toNat = 64 * (key.toNat / 64) + 8 * (key.toNat / 8 % 8) + key.toNat % 8
  omega

theorem decodePlain_keyOfFields (x : Fin 4) (y z : Fin 8) (n1 n2 : Byte) :
    decodePlain (keyOfFields x y z) n1 n2 =
      match x with
      | 0 => decodeQuadrant0 y z n1 (wordOf n2 n1)
      | 1 => .ldQuadrant (srcField y) (srcField z)
      | 2 => .aluQuadrant (aluField y) (srcField z)
      | 3 => decodeQuadrant3 (keyOfFields 3 y z) y z n1 (wordOf n2 n1) := by
  have hx : (keyOfFields x y z).toNat / 64 = x := by rw [keyOfFields_toNat]; omega
  have hy : (keyOfFields x y z).toNat / 8 % 8 = y := by rw [keyOfFields_toNat]; omega
  have hz : (keyOfFields x y z).toNat % 8 = z := by rw [keyOfFields_toNat]; omega
  simp only [decodePlain, hx, hy, hz]
  match x with
  | 0 | 1 | 2 | 3 => rfl

/-- The instruction read at a plain key and the two bytes after it keeps every bit it takes, and it is well formed unless
the key is an escape byte, which the decoder has taken before (R91, R101). -/
def ReadsPlain (key n1 n2 : Byte) (i : Instr) : Prop := i.wf = !isEscape key ∧ encode i <+: [key, n1, n2]

/-- The immediate word is `w`, so that both of its bytes stand there as the encoder writes them; then each of the 64 pairs of
fields is a row of the table (R109). -/
theorem readsPlain_quadrant0 (y z : Fin 8) (w : Word) :
    ReadsPlain (keyOfFields 0 y z) (loByte w) (hiByte w) (decodeQuadrant0 y z (loByte w) w) := by
  fin_cases z <;> fin_cases y <;> exact ⟨rfl, _, rfl⟩

theorem readsPlain_quadrant3 (y z : Fin 8) (w : Word) :
    ReadsPlain (keyOfFields 3 y z) (loByte w) (hiByte w) (decodeQuadrant3 (keyOfFields 3 y z) y z (loByte w) w) := by
  fin_cases z <;> fin_cases y <;> exact ⟨rfl, _, rfl⟩

theorem readsPlain_ldQuadrant (y z : Fin 8) (n1 n2 : Byte) :
    ReadsPlain (keyOfFields 1 y z) n1 n2 (.ldQuadrant (srcField y) (srcField z)) := by
  fin_cases z <;> fin_cases y <;> exact ⟨rfl, _, rfl⟩

theorem readsPlain_aluQuadrant (y z : Fin 8) (n1 n2 : Byte) :
    ReadsPlain (keyOfFields 2 y z) n1 n2 (.aluQuadrant (aluField y) (srcField z)) := by
  fin_cases z <;> fin_cases y <;> exact ⟨rfl, _, rfl⟩

theorem readsPlain_decodePlain (key n1 n2 : Byte) : ReadsPlain key n1 n2 (decodePlain key n1 n2) := by
  obtain ⟨x, y, z, rfl⟩ := exists_keyOfFields key
  have hlo : loByte (wordOf n2 n1) = n1 := loByte_wordOf n2 n1
  have hhi : hiByte (wordOf n2 n1) = n2 := hiByte_wordOf n2 n1
  rw [decodePlain_keyOfFields]
  match x with
  | 0 => simpa only [hlo, hhi] using readsPlain_quadrant0 y z (wordOf n2 n1)
  | 1 => exact readsPlain_ldQuadrant y z n1 n2
  | 2 => exact readsPlain_aluQuadrant y z n1 n2
  | 3 => simpa only [hlo, hhi] using readsPlain_quadrant3 y z (wordOf n2 n1)

/-- The prefixed space by its fields: a prefixed instruction is well formed and is its two key bytes (R92, R103). -/
theorem encode_decodeCB_keyOfFields : ∀ (x : Fin 4) (y z : Fin 8),
    (decodeCB (keyOfFields x y z)).wf = true ∧ encode (decodeCB (keyOfFields x y z)) = [0xCB#8, keyOfFields x y z] := by
  decide

theorem encode_decodeCB (b1 : Byte) : (decodeCB b1).wf = true ∧ encode (decodeCB b1) = [0xCB#8, b1] := by
  obtain ⟨x, y, z, rfl⟩ := exists_keyOfFields b1
  exact encode_decodeCB_keyOfFields x y z

theorem decodeBytes_of_not_escape {b0 : Byte} (b1 b2 : Byte) (hcb : b0 ≠ 0xCB#8) (hed : b0 ≠ 0xED#8) :
    decodeBytes b0 b1 b2 = decodePlain b0 b1 b2 := by
  rw [decodeBytes, if_neg hcb, if_neg hed]

/-- Settles O2, by the first byte: 0xCB, the reserved escape 0xED, or a plain key. -/
theorem encodeOfDecode : Obligations.EncodeOfDecode := by
  intro b0 b1 b2
  by_cases hcb : b0 = 0xCB#8
  · subst hcb
    obtain ⟨hwf, hencode⟩ := encode_decodeCB b1
    exact ⟨hwf, [b2], congrArg (· ++ [b2]) hencode⟩
  by_cases hed : b0 = 0xED#8
  · subst hed
    exact ⟨rfl, [b2], rfl⟩
  · rw [decodeBytes_of_not_escape b1 b2 hcb hed]
    obtain ⟨hwf, hfront⟩ := readsPlain_decodePlain b0 b1 b2
    have hplain : isEscape b0 = false := by simp [isEscape, hcb, hed]
    exact ⟨by rw [hwf, hplain]; rfl, hfront⟩

/-- Settles O5: an undefined key that was decoded is well formed and is the bytes it was decoded from. -/
theorem undefinedKeysAreExact : Obligations.UndefinedKeysAreExact := by
  intro b0 b1 b2
  obtain ⟨hwf, hfront⟩ := encodeOfDecode b0 b1 b2
  refine ⟨fun key => ⟨fun h => ?_, fun ⟨hkey, hundef⟩ => ?_⟩, fun xx => ⟨fun h => ?_, fun ⟨hed, hxx⟩ => ?_⟩⟩
  · rw [h] at hwf hfront
    obtain ⟨hkey, -⟩ := List.cons_prefix_cons.mp hfront
    exact ⟨hkey.symm, hkey ▸ hwf⟩
  · rw [decodeBytes_of_undefinedPlainKey b1 b2 hundef, hkey]
  · rw [h] at hfront
    obtain ⟨hed, hrest⟩ := List.cons_prefix_cons.mp hfront
    obtain ⟨hxx, -⟩ := List.cons_prefix_cons.mp hrest
    exact ⟨hed.symm, hxx.symm⟩
  · rw [hed, hxx, decodeBytes_escape_ED]

/-! ## Lengths and written-out words -/

/-- Settles O3, from the room that a key leaves for operand bytes. -/
theorem lengthIsKeyPlusOperands : Obligations.LengthIsKeyPlusOperands := by
  intro i
  have hkey := one_le_keyLength i
  have hroom := two_mul_keyLength_add_operands_le i
  have hbyte := byteLength_eq_one_add_operands i
  have hlen := length_eq_keyLength_add i
  exact ⟨hbyte, length_eq_encode_length i, by omega, by omega, by omega⟩

/-- Settles O4, by evaluating the decoder. -/
theorem specWordsDecode : Obligations.SpecWordsDecode :=
  ⟨rfl, rfl, rfl, rfl, rfl, rfl, rfl, rfl, rfl, rfl⟩

/-! ## Control transfers (R99) -/

/-- The instructions that R99 names, by family. -/
inductive ControlTransfer : Instr → Prop
  | jp (a : Word) : ControlTransfer (.jp_a16 a)
  | jpCond (cc : Cond) (a : Word) : ControlTransfer (.jpCond cc a)
  | jpHL : ControlTransfer .jp_HL
  | jr (e : Byte) : ControlTransfer (.jr_e8 e)
  | jrCond (cc : Cond) (e : Byte) : ControlTransfer (.jrCond cc e)
  | call (a : Word) : ControlTransfer (.call_a16 a)
  | callCond (cc : Cond) (a : Word) : ControlTransfer (.callCond cc a)
  | ret : ControlTransfer .ret
  | retCond (cc : Cond) : ControlTransfer (.retCond cc)
  | reti : ControlTransfer .reti
  | rst (y : Fin 8) : ControlTransfer (.rstTo y)

theorem ControlTransfer.ownsPc {i : Instr} (h : ControlTransfer i) : i.ownsPc = true := by
  cases h with
  | jpCond cc | jrCond cc | callCond cc | retCond cc => cases cc <;> rfl
  | rst y => revert y; decide
  | jp | jpHL | jr | call | ret | reti => rfl

theorem controlTransfer_of_ownsPc {i : Instr} (h : i.ownsPc = true) : ControlTransfer i := by
  cases i
  case jp_a16 a => exact .jp a
  case jp_NZ_a16 a => exact .jpCond .nz a
  case jp_Z_a16 a => exact .jpCond .z a
  case jp_NC_a16 a => exact .jpCond .nc a
  case jp_C_a16 a => exact .jpCond .c a
  case jp_HL => exact .jpHL
  case jr_e8 e => exact .jr e
  case jr_NZ_e8 e => exact .jrCond .nz e
  case jr_Z_e8 e => exact .jrCond .z e
  case jr_NC_e8 e => exact .jrCond .nc e
  case jr_C_e8 e => exact .jrCond .c e
  case call_a16 a => exact .call a
  case call_NZ_a16 a => exact .callCond .nz a
  case call_Z_a16 a => exact .callCond .z a
  case call_NC_a16 a => exact .callCond .nc a
  case call_C_a16 a => exact .callCond .c a
  case ret => exact .ret
  case ret_NZ => exact .retCond .nz
  case ret_Z => exact .retCond .z
  case ret_NC => exact .retCond .nc
  case ret_C => exact .retCond .c
  case reti => exact .reti
  case rst_00 => exact .rst 0
  case rst_08 => exact .rst 1
  case rst_10 => exact .rst 2
  case rst_18 => exact .rst 3
  case rst_20 => exact .rst 4
  case rst_28 => exact .rst 5
  case rst_30 => exact .rst 6
  case rst_38 => exact .rst 7
  all_goals exact absurd h Bool.false_ne_true

theorem controlTransfer_iff (i : Instr) :
    ControlTransfer i ↔
      (∃ a, i = .jp_a16 a) ∨ (∃ cc a, i = .jpCond cc a) ∨ i = .jp_HL ∨ (∃ e, i = .jr_e8 e) ∨
      (∃ cc e, i = .jrCond cc e) ∨ (∃ a, i = .call_a16 a) ∨ (∃ cc a, i = .callCond cc a) ∨ i = .ret ∨
      (∃ cc, i = .retCond cc) ∨ i = .reti ∨ ∃ y, i = .rstTo y := by
  constructor
  · intro h
    cases h with
    | jp a => exact .inl ⟨a, rfl⟩
    | jpCond cc a => exact .inr <| .inl ⟨cc, a, rfl⟩
    | jpHL => exact .inr <| .inr <| .inl rfl
    | jr e => exact .inr <| .inr <| .inr <| .inl ⟨e, rfl⟩
    | jrCond cc e => exact .inr <| .inr <| .inr <| .inr <| .inl ⟨cc, e, rfl⟩
    | call a => exact .inr <| .inr <| .inr <| .inr <| .inr <| .inl ⟨a, rfl⟩
    | callCond cc a => exact .inr <| .inr <| .inr <| .inr <| .inr <| .inr <| .inl ⟨cc, a, rfl⟩
    | ret => exact .inr <| .inr <| .inr <| .inr <| .inr <| .inr <| .inr <| .inl rfl
    | retCond cc => exact .inr <| .inr <| .inr <| .inr <| .inr <| .inr <| .inr <| .inr <| .inl ⟨cc, rfl⟩
    | reti => exact .inr <| .inr <| .inr <| .inr <| .inr <| .inr <| .inr <| .inr <| .inr <| .inl rfl
    | rst y => exact .inr <| .inr <| .inr <| .inr <| .inr <| .inr <| .inr <| .inr <| .inr <| .inr ⟨y, rfl⟩
  · rintro (⟨a, rfl⟩ | ⟨cc, a, rfl⟩ | rfl | ⟨e, rfl⟩ | ⟨cc, e, rfl⟩ | ⟨a, rfl⟩ | ⟨cc, a, rfl⟩ | rfl | ⟨cc, rfl⟩ |
      rfl | ⟨y, rfl⟩)
    all_goals constructor

/-- Settles O6, by the table's row of each instruction. -/
theorem ownsPcExactlyControl : Obligations.OwnsPcExactlyControl := fun i =>
  ⟨fun h => (controlTransfer_iff i).mp (controlTransfer_of_ownsPc h),
    fun h => ((controlTransfer_iff i).mpr h).ownsPc⟩

/-! ## Error entries (R101, R102, R104) -/

/-- Settles O29: an effect that completes leaves a running state Running or Stopped, and one that raises raises what
`CanRaise` allows its instruction. -/
theorem errorEntriesRaise : Obligations.ErrorEntriesRaise := by
  refine ⟨fun key s => ⟨⟨_, rfl, raised_raise s _⟩, ⟨_, rfl, raised_raise s _⟩, ⟨_, rfl, raised_raise s _⟩,
    ⟨_, rfl, raised_raise s _⟩, _, rfl, raised_raise s _⟩, ⟨rfl, rfl, rfl⟩, ⟨rfl, rfl, rfl⟩, ⟨rfl, rfl, rfl⟩, ?_⟩
  intro i s t key hrun hexec hterm
  obtain hran | ⟨e, hraise, rfl⟩ := exec_next_cases hexec
  · have hnot := isTerminated_of_ran hrun hran
    rw [hterm] at hnot
    cases hnot
  · cases hterm
    obtain h | ⟨_, h⟩ | ⟨-, hentry⟩ := hraise
    · cases h
    · cases h
    · exact hentry

/-! ## The step (R91, R95, R100) -/

theorem decodeBytes_of_decode {b0 b1 b2 : Byte} {i : Instr} {rest : List Byte}
    (h : decode [b0, b1, b2] = .ok (i, rest)) : decodeBytes b0 b1 b2 = i := by
  simp only [decode] at h
  split at h
  · cases h
    rfl
  · cases h

/-- Settles O50: a 16-bit immediate starts at 0xFFFF exactly where its one-byte key stands at 0xFFFE. -/
theorem stepRunsDecodedInstruction : Obligations.StepRunsDecodedInstruction := by
  intro s i rest hrun hdecode
  have hfetch : fetch s = i := decodeBytes_of_decode hdecode
  have hend : i.operands.length = 2 ∧ (s.advancePc i.keyLength).regs.pc = 0xFFFF#16 ↔
      i.operands.length = 2 ∧ s.regs.pc = 0xFFFE#16 := by
    refine and_congr_right fun hword => ?_
    rw [State.advancePc_pc, keyLength_eq_one_of_word hword]
    bv_omega
  rw [step_of_running hrun, hfetch, runInstr_eq]
  exact ⟨fun hfits => if_neg (mt hend.mp hfits), fun hover => ⟨_, if_pos (hend.mpr hover), rfl, rfl, rfl⟩⟩

end Sys2Proof.Proofs

namespace Sys2Proof.Proofs

open Sys2Proof Sys2Proof.Machine Sys2Proof.Laws

/-! ## Frames: what each register and memory write leaves unchanged (R12, R13, R62) -/

/-- One write after another writes what either writes. -/
theorem onlyWrites_trans {p q : List Part} {a b : List Word} {s t u : State} (h : OnlyWrites p a s t)
    (k : OnlyWrites q b t u) : OnlyWrites (p ++ q) (a ++ b) s u where
  reg8 r hr := (k.reg8 r (hr <| List.mem_append_right p ·)).trans (h.reg8 r (hr <| List.mem_append_left q ·))
  f hf := (k.f (hf <| List.mem_append_right p ·)).trans (h.f (hf <| List.mem_append_left q ·))
  sp hsp := (k.sp (hsp <| List.mem_append_right p ·)).trans (h.sp (hsp <| List.mem_append_left q ·))
  pc hpc := (k.pc (hpc <| List.mem_append_right p ·)).trans (h.pc (hpc <| List.mem_append_left q ·))
  mem x hx := (k.mem x fun y hy => hx y (List.mem_append_right a hy)).trans
    (h.mem x fun y hy => hx y (List.mem_append_left b hy))
  queue hq := (k.queue (hq <| List.mem_append_right p ·)).trans (h.queue (hq <| List.mem_append_left q ·))
  run hr := (k.run (hr <| List.mem_append_right p ·)).trans (h.run (hr <| List.mem_append_left q ·))
  retired := k.retired.trans h.retired
  freeDraws := k.freeDraws.trans h.freeDraws

theorem onlyWrites_setReg8 (s : State) (r : Reg8) (v : Byte) : OnlyWrites [.reg r] [] s (s.setReg8 r v) where
  reg8 x hx := by
    have hne : x ≠ r := fun h => hx (h ▸ List.mem_cons_self)
    rw [State.setReg8_reg8, if_neg hne]
  f _ := State.setReg8_f s r v
  sp _ := State.setReg8_sp s r v
  pc _ := State.setReg8_pc s r v
  mem a _ := read8_of_mem_eq (State.setReg8_mem s r v) a
  queue _ := State.setReg8_queue s r v
  run _ := State.setReg8_run s r v
  retired := State.setReg8_retired s r v
  freeDraws := State.setReg8_freeDraws s r v

theorem onlyWrites_setF (s : State) (v : Byte) : OnlyWrites [.f] [] s (s.setF v) where
  reg8 r _ := State.setF_reg8 s v r
  f h := absurd List.mem_cons_self h
  sp _ := rfl
  pc _ := rfl
  mem _ _ := rfl
  queue _ := rfl
  run _ := rfl
  retired := rfl
  freeDraws := rfl

theorem onlyWrites_setSp (s : State) (v : Word) : OnlyWrites [.sp] [] s (s.setSp v) where
  reg8 r _ := State.setSp_reg8 s v r
  f _ := rfl
  sp h := absurd List.mem_cons_self h
  pc _ := rfl
  mem _ _ := rfl
  queue _ := rfl
  run _ := rfl
  retired := rfl
  freeDraws := rfl

theorem onlyWrites_write8 (s : State) (a : Word) (v : Byte) : OnlyWrites [] [a] s (s.write8 a v) where
  reg8 r _ := State.write8_reg8 s a v r
  f _ := rfl
  sp _ := rfl
  pc _ := rfl
  mem b hb := by rw [read8_write8, if_neg (hb a List.mem_cons_self).symm]
  queue _ := rfl
  run _ := rfl
  retired := rfl
  freeDraws := rfl

theorem onlyWrites_setBc (s : State) (v : Word) : OnlyWrites [.reg .b, .reg .c] [] s (s.setBc v) :=
  onlyWrites_trans (onlyWrites_setReg8 s _ _) (onlyWrites_setReg8 _ _ _)

theorem onlyWrites_setDe (s : State) (v : Word) : OnlyWrites [.reg .d, .reg .e] [] s (s.setDe v) :=
  onlyWrites_trans (onlyWrites_setReg8 s _ _) (onlyWrites_setReg8 _ _ _)

theorem onlyWrites_setHl (s : State) (v : Word) : OnlyWrites [.reg .h, .reg .l] [] s (s.setHl v) :=
  onlyWrites_trans (onlyWrites_setReg8 s _ _) (onlyWrites_setReg8 _ _ _)

theorem onlyWrites_setAf (s : State) (v : Word) : OnlyWrites [.reg .a, .f] [] s (s.setAf v) :=
  onlyWrites_trans (onlyWrites_setReg8 s _ _) (onlyWrites_setF _ _)

theorem onlyWrites_setRp (s : State) (p : Rp) (v : Word) : OnlyWrites (rpParts p) [] s (s.setRp p v) := by
  cases p with
  | bc => exact onlyWrites_setBc s v
  | de => exact onlyWrites_setDe s v
  | hl => exact onlyWrites_setHl s v
  | sp => exact onlyWrites_setSp s v

theorem onlyWrites_setRp2 (s : State) (p : Rp2) (v : Word) : OnlyWrites (rp2Parts p) [] s (s.setRp2 p v) := by
  cases p with
  | bc => exact onlyWrites_setBc s v
  | de => exact onlyWrites_setDe s v
  | hl => exact onlyWrites_setHl s v
  | af => exact onlyWrites_setAf s v

/-! ## What a write leaves in the part it writes (R22, R23, R64, R66) -/

theorem reg8_setReg8_self (s : State) (r : Reg8) (v : Byte) : (s.setReg8 r v).reg8 r = v := by
  rw [State.setReg8_reg8, if_pos rfl]

theorem read8_write8_self (s : State) (a : Word) (v : Byte) : (s.write8 a v).read8 a = v := by
  rw [read8_write8, if_pos rfl]

/-- Of two stores to different cells the first one stands. -/
theorem read8_write8_write8_of_ne {a b : Word} (s : State) (v w : Byte) (h : canon b.toNat ≠ canon a.toNat) :
    ((s.write8 a v).write8 b w).read8 a = v := by
  rw [read8_write8, if_neg h, read8_write8_self]

theorem sp_setRp2 (s : State) (p : Rp2) (v : Word) : (s.setRp2 p v).regs.sp = s.regs.sp := by
  cases p <;> rfl

/-- Every pair of table rp2 keeps the high byte written to it; only AF masks its low byte. -/
theorem hiByte_rp2_setRp2 (s : State) (p : Rp2) (v : Word) : hiByte ((s.setRp2 p v).rp2 p) = hiByte v := by
  cases p <;> exact hiByte_wordOf _ _

theorem loByte_rp2_setRp2 {p : Rp2} (s : State) (v : Word) (h : p ≠ .af) :
    loByte ((s.setRp2 p v).rp2 p) = loByte v := by
  cases p with
  | bc | de | hl => exact loByte_wordOf _ _
  | af => exact absurd rfl h

/-- Writing F sets the flags to the four high bits of the byte (R23, R28). -/
theorem flagsAre_setF (s : State) (v : Byte) :
    FlagsAre (s.setF v) (v.getLsbD 7) (v.getLsbD 6) (v.getLsbD 5) (v.getLsbD 4) where
  z := (BitVec.getLsbD_and).trans (Bool.and_true _)
  n := (BitVec.getLsbD_and).trans (Bool.and_true _)
  h := (BitVec.getLsbD_and).trans (Bool.and_true _)
  c := (BitVec.getLsbD_and).trans (Bool.and_true _)
  low := f_low v

/-! ## Addresses and operand reads (R75, R95, R131, D35) -/

theorem highPage_eq_add (n : Byte) : highPage n = 0xFF00#16 + n.setWidth 16 := by
  have hn := n.isLt
  apply BitVec.eq_of_toNat_eq
  simp only [highPage, wordOf_toNat, BitVec.toNat_add, BitVec.toNat_setWidth, BitVec.toNat_ofNat]
  omega

/-- An address and the next one are different cells, unless the address wraps. -/
theorem canon_add_one_ne {a : Word} (h : a ≠ 0xFFFF#16) : canon (a + 1#16).toNat ≠ canon a.toNat :=
  (canon_ne_succ (succ_toNat h)).symm

/-- A word store writes both bytes, or raises at 0xFFFF before either (R61, R66). -/
theorem write16_eq (s : State) (a v : Word) :
    s.write16 a v =
      if a = 0xFFFF#16 then .error (.addressOutOfRange 0xFFFF)
      else .ok ((s.write8 a (loByte v)).write8 (a + 1#16) (hiByte v)) := by
  rw [State.write16, writeWord_of_word]
  by_cases h : a = 0xFFFF#16
  · rw [if_pos h, if_pos h]
  · rw [if_neg h, if_neg h]
    rfl

/-- With the key at 0xFFFE the word operand starts at 0xFFFF, where no word can be read (R61, R95). -/
theorem imm16Raises_of_two_operands {i : Instr} (h : i.operands.length = 2) : Imm16Raises i := by
  intro s hpc
  have hend : (s.advancePc i.keyLength).regs.pc = 0xFFFF#16 := by
    rw [State.advancePc_pc, keyLength_eq_one_of_word h, hpc]
    rfl
  exact ⟨_, (runInstr_eq i s).trans (if_pos ⟨h, hend⟩), rfl, rfl, rfl⟩

/-! ## The instructions of each family, by their shared operation -/

theorem exec_ldRegReg (dst src : Reg8) (s : State) : exec (.ldRegReg dst src) s = loadReg dst src s := by
  cases dst <;> cases src <;> rfl

theorem exec_ldImm8_reg (dst : Reg8) (n : Byte) (s : State) : exec (.ldImm8 (.reg dst) n) s = loadImm dst n s := by
  cases dst <;> rfl

theorem exec_ldRegInd (dst : Reg8) (s : State) : exec (.ldRegInd dst) s = loadFromHL dst s := by
  cases dst <;> rfl

theorem exec_ldIndReg (src : Reg8) (s : State) : exec (.ldIndReg src) s = storeAtHL src s := by
  cases src <;> rfl

theorem exec_ldRpImm (p : Rp) (n : Word) (s : State) : exec (.ldRpImm p n) s = loadPairImm p n s := by
  cases p <;> rfl

theorem exec_pushRp (p : Rp2) (s : State) : exec (.pushRp p) s = pushPair p s := by
  cases p <;> rfl

theorem exec_popRp (p : Rp2) (s : State) : exec (.popRp p) s = popPair p s := by
  cases p <;> rfl

theorem encodes_ldRegReg (dst src : Reg8) :
    Encodes (.ldRegReg dst src) [byte (0x40 + 8 * dst.code + src.code)] 1 false := by
  cases dst <;> cases src <;> exact ⟨rfl, rfl, rfl⟩

theorem encodes_ldImm8_reg (dst : Reg8) (n : Byte) :
    Encodes (.ldImm8 (.reg dst) n) [byte (0x06 + 8 * dst.code), n] 2 false := by
  cases dst <;> exact ⟨rfl, rfl, rfl⟩

theorem encodes_ldRegInd (dst : Reg8) : Encodes (.ldRegInd dst) [byte (0x46 + 8 * dst.code)] 1 false := by
  cases dst <;> exact ⟨rfl, rfl, rfl⟩

theorem encodes_ldIndReg (src : Reg8) : Encodes (.ldIndReg src) [byte (0x70 + src.code)] 1 false := by
  cases src <;> exact ⟨rfl, rfl, rfl⟩

theorem encodes_ldRpImm (p : Rp) (n : Word) :
    Encodes (.ldRpImm p n) [byte (0x01 + 16 * p.code), loByte n, hiByte n] 3 false := by
  cases p <;> exact ⟨rfl, rfl, rfl⟩

theorem encodes_pushRp (p : Rp2) : Encodes (.pushRp p) [byte (0xC5 + 16 * p.code)] 1 false := by
  cases p <;> exact ⟨rfl, rfl, rfl⟩

theorem encodes_popRp (p : Rp2) : Encodes (.popRp p) [byte (0xC1 + 16 * p.code)] 1 false := by
  cases p <;> exact ⟨rfl, rfl, rfl⟩

theorem imm16Raises_ldRpImm (p : Rp) (n : Word) : Imm16Raises (.ldRpImm p n) := by
  cases p <;> exact imm16Raises_of_two_operands rfl

/-! ## The transfers of A that move HL (R135 to R138) -/

theorem storeAMoveHL_result (delta : Word) (s : State) :
    ∃ t, storeAMoveHL delta s = .next t ∧ t.read8 s.hl = s.regs.a ∧ t.hl = s.hl + delta ∧
      OnlyWrites [.reg .h, .reg .l] [s.hl] s t :=
  ⟨_, rfl, read8_write8_self s s.hl s.regs.a, wordOf_hiByte_loByte _,
    onlyWrites_trans (onlyWrites_write8 s _ _) (onlyWrites_setHl _ _)⟩

theorem loadAMoveHL_result (delta : Word) (s : State) :
    ∃ t, loadAMoveHL delta s = .next t ∧ t.regs.a = s.read8 s.hl ∧ t.hl = s.hl + delta ∧
      OnlyWrites [.reg .a, .reg .h, .reg .l] [] s t :=
  ⟨_, rfl, rfl, wordOf_hiByte_loByte _, onlyWrites_trans (onlyWrites_setReg8 s _ _) (onlyWrites_setHl _ _)⟩

/-! ## The stack (R75, R76, R140, R141) -/

/-- The state a push of `v` leaves where it does not raise. -/
def pushed (v : Word) (s : State) : State :=
  ((s.setSp (s.regs.sp - 2#16)).write8 (s.regs.sp - 2#16) (loByte v)).write8 (s.regs.sp - 1#16) (hiByte v)

theorem push16_of_ne (v : Word) {s : State} (h : s.regs.sp ≠ 0x0001#16) : push16 v s = .ok (pushed v s) :=
  (push16_eq v s).trans (if_neg h)

theorem push16_of_eq (v : Word) {s : State} (h : s.regs.sp = 0x0001#16) :
    push16 v s = .error (.addressOutOfRange 0xFFFF) :=
  (push16_eq v s).trans (if_pos h)

theorem read8_pushed_high (v : Word) (s : State) : (pushed v s).read8 (s.regs.sp - 1#16) = hiByte v :=
  read8_write8_self _ _ _

theorem read8_pushed_low (v : Word) {s : State} (h : s.regs.sp ≠ 0x0001#16) :
    (pushed v s).read8 (s.regs.sp - 2#16) = loByte v :=
  read8_write8_write8_of_ne _ _ _ (canon_stack_ne h)

theorem onlyWrites_pushed (v : Word) (s : State) :
    OnlyWrites [.sp] [s.regs.sp - 2#16, s.regs.sp - 1#16] s (pushed v s) :=
  onlyWrites_trans (onlyWrites_setSp s _) (onlyWrites_trans (onlyWrites_write8 _ _ _) (onlyWrites_write8 _ _ _))

/-- The word at SP, where it can be read. -/
def stackTop (s : State) : Word := wordOf (s.read8 (s.regs.sp + 1#16)) (s.read8 s.regs.sp)

theorem pop16_of_ne {s : State} (h : s.regs.sp ≠ 0xFFFF#16) :
    pop16 s = .ok (stackTop s, s.setSp (s.regs.sp + 2#16)) :=
  (pop16_eq s).trans (if_neg h)

theorem pop16_of_eq {s : State} (h : s.regs.sp = 0xFFFF#16) : pop16 s = .error (.addressOutOfRange 0xFFFF) :=
  (pop16_eq s).trans (if_pos h)

theorem popPair_of_ne (p : Rp2) {s : State} (h : s.regs.sp ≠ 0xFFFF#16) :
    popPair p s = .next ((s.setSp (s.regs.sp + 2#16)).setRp2 p (stackTop s)) := by
  rw [popPair, pop16_of_ne h]
  rfl

theorem popPair_of_eq (p : Rp2) {s : State} (h : s.regs.sp = 0xFFFF#16) :
    popPair p s = .next (s.raise (.addressOutOfRange 0xFFFF)) := by
  rw [popPair, pop16_of_eq h]
  rfl

/-! ## The obligations on loads, stores and stack transfers -/

/-- Settles O14. -/
theorem ldRegisterAndImmediate : Obligations.LdRegisterAndImmediate := fun dst src n s =>
  ⟨⟨encodes_ldRegReg dst src, _, exec_ldRegReg dst src s, reg8_setReg8_self s dst _, onlyWrites_setReg8 s dst _⟩,
    ⟨encodes_ldImm8_reg dst n, _, exec_ldImm8_reg dst n s, reg8_setReg8_self s dst n, onlyWrites_setReg8 s dst n⟩,
    ⟨rfl, rfl, rfl⟩, _, rfl, read8_write8_self s s.hl n, onlyWrites_write8 s s.hl n⟩

/-- Settles O15. -/
theorem ldThroughHL : Obligations.LdThroughHL := fun r s =>
  ⟨⟨encodes_ldRegInd r, _, exec_ldRegInd r s, reg8_setReg8_self s r _, onlyWrites_setReg8 s r _⟩,
    encodes_ldIndReg r, _, exec_ldIndReg r s, read8_write8_self s s.hl _, onlyWrites_write8 s s.hl _⟩

/-- Settles O16: each of the five instructions is `loadA` at its address. -/
theorem ldAccumulatorFromMemory : Obligations.LdAccumulatorFromMemory := by
  refine ⟨fun i addr s h => ?_, fun a n => ⟨⟨rfl, rfl, rfl⟩, ⟨rfl, rfl, rfl⟩, ⟨rfl, rfl, rfl⟩, ⟨rfl, rfl, rfl⟩,
    ⟨rfl, rfl, rfl⟩, imm16Raises_of_two_operands rfl⟩⟩
  have hexec : exec i s = loadA addr s := by
    simp only [← highPage_eq_add] at h
    obtain ⟨rfl, rfl⟩ | ⟨rfl, rfl⟩ | rfl | ⟨n, rfl, rfl⟩ | ⟨rfl, rfl⟩ := h <;> rfl
  exact ⟨_, hexec, reg8_setReg8_self s .a _, onlyWrites_setReg8 s .a _⟩

/-- Settles O17: each of the five instructions is `storeA` at its address. -/
theorem stAccumulatorToMemory : Obligations.StAccumulatorToMemory := by
  refine ⟨fun i addr s h => ?_, highPage_eq_add, fun a n => ⟨⟨rfl, rfl, rfl⟩, ⟨rfl, rfl, rfl⟩, ⟨rfl, rfl, rfl⟩,
    ⟨rfl, rfl, rfl⟩, ⟨rfl, rfl, rfl⟩, imm16Raises_of_two_operands rfl⟩⟩
  have hexec : exec i s = storeA addr s := by
    obtain ⟨rfl, rfl⟩ | ⟨rfl, rfl⟩ | rfl | ⟨n, rfl, rfl⟩ | ⟨rfl, rfl⟩ := h <;> rfl
  exact ⟨_, hexec, read8_write8_self s addr _, onlyWrites_write8 s addr _⟩

/-- Settles O18: the decrements are the increments with HL moved by -1. -/
theorem ldAccumulatorMovesHL : Obligations.LdAccumulatorMovesHL := by
  intro s
  rw [BitVec.sub_eq_add_neg]
  exact ⟨⟨⟨rfl, rfl, rfl⟩, storeAMoveHL_result 1#16 s⟩, ⟨⟨rfl, rfl, rfl⟩, storeAMoveHL_result (-1#16) s⟩,
    ⟨⟨rfl, rfl, rfl⟩, loadAMoveHL_result 1#16 s⟩, ⟨rfl, rfl, rfl⟩, loadAMoveHL_result (-1#16) s⟩

/-- Settles O19. -/
theorem ldSixteenBit : Obligations.LdSixteenBit := fun p n s =>
  ⟨⟨encodes_ldRpImm p n, imm16Raises_ldRpImm p n, _, exec_ldRpImm p n s, rp_setRp s p n, onlyWrites_setRp s p n⟩,
    ⟨rfl, rfl, rfl⟩, _, rfl, rfl, onlyWrites_setSp s s.hl⟩

/-- Settles O20, by the two cases of a word store. -/
theorem stStackPointer : Obligations.StStackPointer := by
  refine fun a s => ⟨⟨rfl, rfl, rfl⟩, imm16Raises_of_two_operands rfl, fun h => ?_, fun h => ?_⟩
  · have hexec : exec (.ld_ia16_SP a) s = finish s (.ok _) :=
      congrArg (finish s) ((write16_eq s a s.regs.sp).trans (if_neg h))
    exact ⟨_, hexec, read8_write8_write8_of_ne s _ _ (canon_add_one_ne h), read8_write8_self _ _ _,
      onlyWrites_trans (onlyWrites_write8 s _ _) (onlyWrites_write8 _ _ _)⟩
  · have hexec : exec (.ld_ia16_SP a) s = finish s (.error _) :=
      congrArg (finish s) ((write16_eq s a s.regs.sp).trans (if_pos h))
    exact ⟨writeWord_out_of_range s.mem s.regs.sp (by decide), _, hexec, raised_raise s _⟩

/-- Settles O21, by the two cases of a push. -/
theorem pushStoresPairBelow : Obligations.PushStoresPairBelow := by
  intro p s
  have hexec : exec (.pushRp p) s = finish s (push16 (s.rp2 p) s) := exec_pushRp p s
  refine ⟨encodes_pushRp p, fun h => ?_, fun h => ?_⟩
  · rw [hexec, push16_of_ne _ h]
    exact ⟨_, rfl, rfl, read8_pushed_low _ h, read8_pushed_high _ s, onlyWrites_pushed _ s⟩
  · rw [hexec, push16_of_eq _ h]
    exact ⟨_, rfl, raised_raise s _⟩

/-- Settles O22, by the two cases of a pop; the flags of POP AF are the masked low byte. -/
theorem popLoadsPair : Obligations.PopLoadsPair := by
  refine fun p s => ⟨encodes_popRp p, fun h => ⟨_, (exec_popRp p s).trans (popPair_of_ne p h), ?_, ?_, ?_, ?_, ?_⟩,
    fun h => ⟨_, (exec_popRp p s).trans (popPair_of_eq p h), raised_raise s _⟩⟩
  · rw [sp_setRp2, State.setSp_sp]
  · rw [hiByte_rp2_setRp2, stackTop, hiByte_wordOf]
  · intro hp
    rw [loByte_rp2_setRp2 _ _ hp, stackTop, loByte_wordOf]
  · rintro rfl
    have hlow : loByte (stackTop s) = s.read8 s.regs.sp := loByte_wordOf _ _
    rw [← hlow]
    exact flagsAre_setF _ _
  · exact onlyWrites_trans (onlyWrites_setSp s _) (onlyWrites_setRp2 _ p _)

end Sys2Proof.Proofs

namespace Sys2Proof.Proofs

open Sys2Proof Sys2Proof.Machine Sys2Proof.Laws

/-! ## Sums and differences with a carry, in the words of the library (R11, R160 to R163) -/

theorem bitNat_eq_toNat (b : Bool) : bitNat b = b.toNat := by
  cases b <;> rfl

@[simp] theorem bitNat_false : bitNat false = 0 := rfl

theorem bitNat_decide (p : Prop) [Decidable p] : bitNat (decide p) = if p then 1 else 0 := by
  simp only [bitNat, decide_eq_true_eq]

theorem carryByte_eq_ofNat (c : Bool) : carryByte c = BitVec.ofNat 8 (bitNat c) := by
  cases c <;> rfl

theorem ofNat_add_bitNat (x y : Byte) (c : Bool) :
    BitVec.ofNat 8 (x.toNat + y.toNat + bitNat c) = x + y + carryByte c := by
  rw [BitVec.ofNat_add, BitVec.ofNat_add, ← carryByte_eq_ofNat, BitVec.ofNat_toNat, BitVec.ofNat_toNat,
    BitVec.setWidth_eq, BitVec.setWidth_eq]

/-- A difference is what the operand and the borrow complete to the old value. -/
theorem ofInt_sub_bitNat_add (x y : Byte) (c : Bool) :
    BitVec.ofInt 8 (x.toNat - y.toNat - bitNat c) + y + carryByte c = x := by
  have hofInt (z : Byte) : BitVec.ofInt 8 z.toNat = z := by
    rw [BitVec.ofInt_natCast, BitVec.ofNat_toNat, BitVec.setWidth_eq]
  have hcancel : (x.toNat - y.toNat - bitNat c + y.toNat + bitNat c : Int) = x.toNat := by omega
  calc BitVec.ofInt 8 (x.toNat - y.toNat - bitNat c) + y + carryByte c
      = BitVec.ofInt 8 (x.toNat - y.toNat - bitNat c + y.toNat + bitNat c) := by
        rw [BitVec.ofInt_add, BitVec.ofInt_add _ (y.toNat : Int), hofInt, BitVec.ofInt_natCast, carryByte_eq_ofNat]
    _ = x := by rw [hcancel, hofInt]

theorem ofInt_sub_no_borrow (x y : Byte) : BitVec.ofInt 8 (x.toNat - y.toNat - bitNat false) = x - y :=
  BitVec.eq_sub_iff_add_eq.mpr ((BitVec.add_zero _).symm.trans (ofInt_sub_bitNat_add x y false))

theorem carryByte_toNat (c : Bool) : (carryByte c).toNat = bitNat c := by
  cases c <;> rfl

theorem bitNat_le_one (c : Bool) : bitNat c ≤ 1 := by
  cases c <;> decide

/-! ## The xor rule for H is the carry out of bit 3, or the borrow from bit 4 (R160, R162) -/

theorem halfCarry8_eq_decide (old v new : Byte) :
    halfCarry8 old v new = decide (((old ^^^ v ^^^ new) &&& 0x10#8) ≠ 0#8) :=
  decide_not.symm

theorem halfCarry8_eq_getLsbD (old v new : Byte) : halfCarry8 old v new = (old ^^^ v ^^^ new).getLsbD 4 := by
  have hbit : (old ^^^ v ^^^ new) &&& 0x10#8 = if (old ^^^ v ^^^ new).getLsbD 4 then 0x10#8 else 0#8 :=
    BitVec.and_twoPow _ 4
  rw [halfCarry8, hbit]
  cases (old ^^^ v ^^^ new).getLsbD 4 <;> decide

theorem halfCarry8_comm (old v new : Byte) : halfCarry8 old v new = halfCarry8 new v old := by
  rw [halfCarry8, halfCarry8, BitVec.xor_comm (old ^^^ v), BitVec.xor_comm old v, ← BitVec.xor_assoc]

/-- The bit where the sum differs from the xor of its terms is the carry into it. -/
theorem halfCarry8_sum (x y : Byte) (c : Bool) :
    halfCarry8 x y (x + y + carryByte c) = decide (x.toNat % 16 + y.toNat % 16 + bitNat c > 0xF) := by
  have hxor : ∀ p q k : Bool, ((p ^^ q) ^^ (p ^^ (q ^^ k))) = k := by decide
  rw [halfCarry8_eq_getLsbD, BitVec.getLsbD_xor, BitVec.getLsbD_xor, carryByte,
    BitVec.getLsbD_add_add_bool (by decide), hxor, bitNat_eq_toNat]
  rfl

/-- H of a sum: the low nibbles and the carry exceed a nibble. -/
theorem add8_h_iff (old v : Byte) (c : Bool) :
    (add8 old v c).h = true ↔ old.toNat % 16 + v.toNat % 16 + bitNat c > 0xF := by
  rw [add8, ofNat_add_bitNat, halfCarry8_sum, decide_eq_true_eq]

/-- H of a difference: the borrow from bit 4 is the carry of the sum that undoes the difference. -/
theorem sub8_h_iff (old v : Byte) (c : Bool) :
    (sub8 old v c).h = true ↔ ((old.toNat % 16 : Nat) : Int) - ((v.toNat % 16 : Nat) : Int) - bitNat c < 0 := by
  generalize hnew : BitVec.ofInt 8 (old.toNat - v.toNat - bitNat c) = new
  have hold : old = new + v + carryByte c := by rw [← hnew, ofInt_sub_bitNat_add]
  have hborrow : (sub8 old v c).h = decide (new.toNat % 16 + v.toNat % 16 + bitNat c > 0xF) := by
    rw [← halfCarry8_sum, ← hold, halfCarry8_comm, ← hnew]
    rfl
  have hnat : old.toNat = ((new.toNat + v.toNat) % 256 + bitNat c) % 256 := by
    conv_lhs => rw [hold, BitVec.toNat_add, BitVec.toNat_add, carryByte_toNat]
  have hc := bitNat_le_one c
  rw [hborrow, decide_eq_true_eq]
  omega

/-! ## The 8-bit results, each flag as its rule gives it (R160 to R171) -/

theorem add8_eq (old v : Byte) (c : Bool) :
    add8 old v c =
      let sum := old.toNat + v.toNat + bitNat c
      let new := BitVec.ofNat 8 sum
      ⟨new, new = 0#8, false, ((old ^^^ v ^^^ new) &&& 0x10#8) ≠ 0#8, sum ≥ 256⟩ := by
  dsimp only
  rw [← halfCarry8_eq_decide]
  rfl

theorem sub8_eq (old v : Byte) (c : Bool) :
    sub8 old v c =
      let diff : Int := old.toNat - v.toNat - bitNat c
      let new := BitVec.ofInt 8 diff
      ⟨new, new = 0#8, true, ((old ^^^ v ^^^ new) &&& 0x10#8) ≠ 0#8, diff < 0⟩ := by
  dsimp only
  rw [← halfCarry8_eq_decide]
  rfl

/-- CP: Z where the operands agree, C where the first is below the second (R167). -/
theorem sub8_no_borrow_eq (old v : Byte) :
    sub8 old v false =
      ⟨old - v, old = v, true, ((old ^^^ v ^^^ (old - v)) &&& 0x10#8) ≠ 0#8, old.toNat < v.toNat⟩ := by
  have hz : old - v = 0#8 ↔ old = v := by bv_omega
  have hc : (old.toNat - v.toNat - bitNat false : Int) < 0 ↔ old.toNat < v.toNat := by
    rw [bitNat_false]
    omega
  rw [sub8_eq]
  simp only [ofInt_sub_no_borrow, hz, hc]

/-- ADD and ADC are one sum; only ADC takes the carry flag in (R160, R161). -/
theorem alu8_of_mem_add {op : AluOp} (hop : op ∈ [AluOp.add, AluOp.adc]) (old v : Byte) (c : Bool) :
    alu8 op old v c = add8 old v (op = .adc ∧ c) := by
  obtain rfl | rfl := List.mem_pair.mp hop
  · rfl
  · simp only [alu8, true_and, Bool.decide_eq_true]

/-- SUB and SBC are one difference; only SBC takes the carry flag in (R162, R163). -/
theorem alu8_of_mem_sub {op : AluOp} (hop : op ∈ [AluOp.sub, AluOp.sbc]) (old v : Byte) (c : Bool) :
    alu8 op old v c = sub8 old v (op = .sbc ∧ c) := by
  obtain rfl | rfl := List.mem_pair.mp hop
  · rfl
  · simp only [alu8, true_and, Bool.decide_eq_true]

theorem and_low_nibble_toNat (v : Byte) : (v &&& 0x0F#8).toNat = v.toNat % 16 :=
  (BitVec.toNat_and _ _).trans (Nat.and_two_pow_sub_one_eq_mod v.toNat 4)

/-- INC is the sum with 1, but for C; H where the low nibble is full (R168). -/
theorem inc8_eq (old : Byte) (c : Bool) :
    inc8 old c = ⟨old + 1#8, old = 0xFF#8, false, old &&& 0x0F#8 = 0x0F#8, c⟩ := by
  have hvalue : BitVec.ofNat 8 (old.toNat + 1) = old + 1#8 :=
    (ofNat_add_bitNat old 1#8 false).trans (BitVec.add_zero _)
  have hz : old + 1#8 = 0#8 ↔ old = 0xFF#8 := by bv_omega
  have hh : halfCarry8 old 1#8 (old + 1#8) = decide (old &&& 0x0F#8 = 0x0F#8) := by
    rw [← hvalue, Bool.eq_iff_iff, decide_eq_true_eq, ← BitVec.toNat_inj, and_low_nibble_toNat]
    refine (add8_h_iff old 1#8 false).trans ?_
    simp only [bitNat_false, BitVec.toNat_ofNat]
    omega
  simp only [inc8, hvalue, hh, ← hz]
  rfl

/-- DEC is the difference with 1, but for C; H where the low nibble is empty (R170). -/
theorem dec8_eq (old : Byte) (c : Bool) :
    dec8 old c = ⟨old - 1#8, old = 0x01#8, true, old &&& 0x0F#8 = 0x00#8, c⟩ := by
  have hdiff : (old.toNat - (1#8).toNat - bitNat false : Int) = old.toNat - 1 := Int.sub_zero _
  have hsub :
      dec8 old c = ⟨(sub8 old 1#8 false).value, (sub8 old 1#8 false).z, true, (sub8 old 1#8 false).h, c⟩ := by
    simp only [sub8, hdiff, dec8]
  have hh : (sub8 old 1#8 false).h = decide (old &&& 0x0F#8 = 0x00#8) := by
    rw [Bool.eq_iff_iff, decide_eq_true_eq, ← BitVec.toNat_inj, and_low_nibble_toNat, sub8_h_iff]
    simp only [bitNat_false, BitVec.toNat_ofNat]
    omega
  rw [hsub, hh, sub8_no_borrow_eq]

/-! ## The instructions of the 8-bit group, by their shared operation -/

theorem exec_aluReg (op : AluOp) (r : Reg8) (s : State) : exec (.aluReg op r) s = aluA op (s.reg8 r) s := by
  cases op <;> cases r <;> rfl

theorem exec_aluInd (op : AluOp) (s : State) : exec (.aluInd op) s = aluA op (s.read8 s.hl) s := by
  cases op <;> rfl

theorem exec_aluImm (op : AluOp) (n : Byte) (s : State) : exec (.aluImm op n) s = aluA op n s := by
  cases op <;> rfl

theorem exec_inc8_reg (r : Reg8) (s : State) : exec (.inc8 (.reg r)) s = updateReg (inc8 · s.flagC) r s := by
  cases r <;> rfl

theorem exec_dec8_reg (r : Reg8) (s : State) : exec (.dec8 (.reg r)) s = updateReg (dec8 · s.flagC) r s := by
  cases r <;> rfl

theorem encodes_aluReg (op : AluOp) (r : Reg8) :
    Encodes (.aluReg op r) [byte (0x80 + 8 * op.code + r.code)] 1 false := by
  cases op <;> cases r <;> exact ⟨rfl, rfl, rfl⟩

theorem encodes_aluInd (op : AluOp) : Encodes (.aluInd op) [byte (0x80 + 8 * op.code + 6)] 1 false := by
  cases op <;> exact ⟨rfl, rfl, rfl⟩

theorem encodes_aluImm (op : AluOp) (n : Byte) : Encodes (.aluImm op n) [byte (0xC6 + 8 * op.code), n] 2 false := by
  cases op <;> exact ⟨rfl, rfl, rfl⟩

theorem aluEncodes (op : AluOp) : AluEncodes op :=
  ⟨encodes_aluReg op, encodes_aluInd op, encodes_aluImm op⟩

theorem encodes_inc8_reg (r : Reg8) : Encodes (.inc8 (.reg r)) [byte (0x04 + 8 * r.code)] 1 false := by
  cases r <;> exact ⟨rfl, rfl, rfl⟩

theorem encodes_dec8_reg (r : Reg8) : Encodes (.dec8 (.reg r)) [byte (0x05 + 8 * r.code)] 1 false := by
  cases r <;> exact ⟨rfl, rfl, rfl⟩

/-- What holds of an operation on A with any operand byte holds for each source (R94). -/
theorem forEachSource_of_aluA {op : AluOp} {s : State} {P : Instr → Byte → Prop}
    (h : ∀ i v, exec i s = aluA op v s → P i v) : ForEachSource op s P :=
  ⟨fun r => h _ _ (exec_aluReg op r s), h _ _ (exec_aluInd op s), fun n => h _ _ (exec_aluImm op n s)⟩

/-! ## What the shared operations leave (R12, R80, R160 to R174) -/

theorem flagsAre_setFlags (s : State) (z n h c : Bool) : FlagsAre (s.setFlags z n h c) z n h c :=
  flagsAre_of_f rfl

theorem onlyWrites_setFlags (s : State) (z n h c : Bool) : OnlyWrites [.f] [] s (s.setFlags z n h c) :=
  onlyWrites_setF s _

/-- CP aside, the operation leaves its result in A and F, and nothing else changes (R160 to R166). -/
theorem aluA_result {op : AluOp} {v : Byte} {s : State} {res : Alu8} (hop : op ≠ .cp)
    (hres : alu8 op s.regs.a v s.flagC = res) :
    ∃ t, aluA op v s = .next t ∧ t.regs.a = res.value ∧ FlagsAre t res.z res.n res.h res.c ∧
      OnlyWrites [.reg .a, .f] [] s t := by
  subst hres
  refine ⟨(s.setReg8 .a _).setFlagsOf _, ?_, rfl, flagsAre_setFlags _ _ _ _ _,
    onlyWrites_trans (onlyWrites_setReg8 s .a _) (onlyWrites_setFlags _ _ _ _ _)⟩
  simp only [aluA, if_neg hop]

theorem updateReg_result (f : Byte → Alu8) {r : Reg8} {s : State} {res : Alu8} (hres : f (s.reg8 r) = res) :
    ∃ t, updateReg f r s = .next t ∧ t.reg8 r = res.value ∧ FlagsAre t res.z res.n res.h res.c ∧
      OnlyWrites [.reg r, .f] [] s t := by
  subst hres
  exact ⟨_, rfl, (State.setFlagsOf_reg8 _ _ r).trans (reg8_setReg8_self s r _), flagsAre_setFlags _ _ _ _ _,
    onlyWrites_trans (onlyWrites_setReg8 s r _) (onlyWrites_setFlags _ _ _ _ _)⟩

theorem updateAtHL_result (f : Byte → Alu8) {s : State} {res : Alu8} (hres : f (s.read8 s.hl) = res) :
    ∃ t, updateAtHL f s = .next t ∧ t.read8 s.hl = res.value ∧ FlagsAre t res.z res.n res.h res.c ∧
      OnlyWrites [.f] [s.hl] s t := by
  subst hres
  exact ⟨_, rfl, read8_write8_self s s.hl _, flagsAre_setFlags _ _ _ _ _,
    onlyWrites_trans (onlyWrites_write8 s s.hl _) (onlyWrites_setFlags _ _ _ _ _)⟩

/-! ## The obligations on 8-bit arithmetic and logic -/

/-- Settles O23: ADD is ADC with no carry in. -/
theorem addAndAddWithCarry : Obligations.AddAndAddWithCarry := by
  refine fun s op hop => ⟨aluEncodes op, forEachSource_of_aluA fun i v hexec => ?_⟩
  have hne : op ≠ .cp := ne_of_mem_of_not_mem hop (by decide)
  obtain ⟨t, hnext, hvalue, hflags, honly⟩ := aluA_result hne (alu8_of_mem_add hop s.regs.a v s.flagC)
  have hhalf := hflags.h ▸ add8_h_iff s.regs.a v _
  rw [add8_eq] at hvalue hflags
  rw [bitNat_decide] at hvalue hflags hhalf
  exact ⟨t, hexec.trans hnext, hvalue, hflags, hhalf, honly⟩

/-- Settles O24: SUB is SBC with no borrow in. -/
theorem subAndSubWithCarry : Obligations.SubAndSubWithCarry := by
  refine fun s op hop => ⟨aluEncodes op, forEachSource_of_aluA fun i v hexec => ?_⟩
  have hne : op ≠ .cp := ne_of_mem_of_not_mem hop (by decide)
  obtain ⟨t, hnext, hvalue, hflags, honly⟩ := aluA_result hne (alu8_of_mem_sub hop s.regs.a v s.flagC)
  have hhalf := hflags.h ▸ sub8_h_iff s.regs.a v _
  rw [sub8_eq] at hvalue hflags
  rw [bitNat_decide, Nat.cast_ite] at hvalue hflags hhalf
  exact ⟨t, hexec.trans hnext, hvalue, hflags, hhalf, honly⟩

/-- Settles O25: CP is the difference with nothing borrowed, and writes its flags alone. -/
theorem compareSetsFlagsOnly : Obligations.CompareSetsFlagsOnly := by
  refine fun s => ⟨aluEncodes .cp, forEachSource_of_aluA fun i v hexec => ?_⟩
  refine ⟨_, hexec, ?_, onlyWrites_setFlags s _ _ _ _⟩
  rw [alu8, sub8_no_borrow_eq]
  exact flagsAre_setFlags s _ _ _ _

/-- Settles O26: the three operations compute their result and flags as stated, whatever the source. -/
theorem logicOnAccumulator : Obligations.LogicOnAccumulator := fun s =>
  ⟨⟨aluEncodes .and, forEachSource_of_aluA fun i v hexec => hexec ▸ aluA_result (by decide) rfl⟩,
    ⟨aluEncodes .xor, forEachSource_of_aluA fun i v hexec => hexec ▸ aluA_result (by decide) rfl⟩,
    aluEncodes .or, forEachSource_of_aluA fun i v hexec => hexec ▸ aluA_result (by decide) rfl⟩

/-- Settles O27: each form updates its operand by `inc8` or `dec8`, which keep the carry they are given. -/
theorem incrementAndDecrementByte : Obligations.IncrementAndDecrementByte := by
  refine fun s => ⟨fun r => ⟨encodes_inc8_reg r, ?_⟩, ⟨⟨rfl, rfl, rfl⟩, ?_⟩,
    fun r => ⟨encodes_dec8_reg r, ?_⟩, ⟨rfl, rfl, rfl⟩, ?_⟩
  · rw [exec_inc8_reg]
    exact updateReg_result (inc8 · s.flagC) (inc8_eq _ _)
  · exact updateAtHL_result (inc8 · s.flagC) (inc8_eq _ _)
  · rw [exec_dec8_reg]
    exact updateReg_result (dec8 · s.flagC) (dec8_eq _ _)
  · exact updateAtHL_result (dec8 · s.flagC) (dec8_eq _ _)

/-- Settles O28. -/
theorem complementAndCarryFlag : Obligations.ComplementAndCarryFlag := fun s =>
  ⟨⟨⟨rfl, rfl, rfl⟩, _, rfl, BitVec.allOnes_xor, flagsAre_setFlags _ _ _ _ _,
      onlyWrites_trans (onlyWrites_setReg8 s .a _) (onlyWrites_setFlags _ _ _ _ _)⟩,
    ⟨⟨rfl, rfl, rfl⟩, _, rfl, flagsAre_setFlags s _ _ _ _, onlyWrites_setFlags s _ _ _ _⟩,
    ⟨rfl, rfl, rfl⟩, _, rfl, flagsAre_setFlags s _ _ _ _, onlyWrites_setFlags s _ _ _ _⟩

end Sys2Proof.Proofs

namespace Sys2Proof.Proofs

open Sys2Proof Sys2Proof.Machine Sys2Proof.Laws

/-! ## 16-bit sums: the xor rule for H is the carry out of bit 11 (R190, R193; 90_conflicts.md C7) -/

theorem sext16_eq_ofInt (e : Byte) : sext16 e = BitVec.ofInt 16 (signed8 e) := by
  rw [signed8_eq_toInt]
  rfl

/-- The sum with the sign-extended pattern is the signed sum (R193). -/
theorem ofNat_add_ofInt_toNat (x : Word) (k : Int) :
    BitVec.ofNat 16 (x.toNat + (BitVec.ofInt 16 k).toNat) = BitVec.ofInt 16 (x.toNat + k) := by
  rw [BitVec.ofNat_add, BitVec.ofInt_add, BitVec.ofInt_natCast, BitVec.ofNat_toNat 16 (BitVec.ofInt 16 k),
    BitVec.setWidth_eq]

theorem add16_h_eq_decide (old v : Word) :
    (add16 old v).h = decide (((old ^^^ v ^^^ BitVec.ofNat 16 (old.toNat + v.toNat)) &&& 0x1000#16) ≠ 0#16) :=
  decide_not.symm

/-- The new value is the word sum, so H reads the sum of the words. -/
theorem add16_h_eq (old v : Word) : (add16 old v).h = (((old ^^^ v ^^^ (old + v)) &&& 0x1000#16) != 0#16) := rfl

theorem add16_h_eq_getLsbD (old v : Word) : (add16 old v).h = (old ^^^ v ^^^ (old + v)).getLsbD 12 := by
  have hbit : (old ^^^ v ^^^ (old + v)) &&& 0x1000#16 =
      if (old ^^^ v ^^^ (old + v)).getLsbD 12 then 0x1000#16 else 0#16 := BitVec.and_twoPow _ 12
  rw [add16_h_eq, hbit]
  cases (old ^^^ v ^^^ (old + v)).getLsbD 12 <;> decide

/-- H of a 16-bit sum: the low twelve bits of the terms carry out of bit 11. -/
theorem add16_h_iff (old v : Word) :
    (add16 old v).h = true ↔ old.toNat % 4096 + v.toNat % 4096 ≥ 4096 := by
  have hxor : ∀ p q k : Bool, ((p ^^ q) ^^ (p ^^ (q ^^ k))) = k := by decide
  rw [add16_h_eq_getLsbD, BitVec.getLsbD_xor, BitVec.getLsbD_xor, BitVec.getLsbD_add (by decide), hxor]
  exact decide_eq_true_iff

/-! ## The instructions of the 16-bit group, by their shared operation -/

theorem exec_addHL (p : Rp) (s : State) : exec (.addHL p) s = addToHL p s := by
  cases p <;> rfl

theorem exec_incRp (p : Rp) (s : State) : exec (.incRp p) s = incPair p s := by
  cases p <;> rfl

theorem exec_decRp (p : Rp) (s : State) : exec (.decRp p) s = decPair p s := by
  cases p <;> rfl

theorem encodes_addHL (p : Rp) : Encodes (.addHL p) [byte (0x09 + 16 * p.code)] 1 false := by
  cases p <;> exact ⟨rfl, rfl, rfl⟩

theorem encodes_incRp (p : Rp) : Encodes (.incRp p) [byte (0x03 + 16 * p.code)] 1 false := by
  cases p <;> exact ⟨rfl, rfl, rfl⟩

theorem encodes_decRp (p : Rp) : Encodes (.decRp p) [byte (0x0B + 16 * p.code)] 1 false := by
  cases p <;> exact ⟨rfl, rfl, rfl⟩

/-! ## What a 16-bit sum leaves in its destination and in F (R190, R193, R194) -/

theorem hl_setFlags_setHl (s : State) (v : Word) (z n h c : Bool) : ((s.setHl v).setFlags z n h c).hl = v :=
  wordOf_hiByte_loByte v

theorem onlyWrites_setFlags_setHl (s : State) (v : Word) (z n h c : Bool) :
    OnlyWrites [.reg .h, .reg .l, .f] [] s ((s.setHl v).setFlags z n h c) :=
  onlyWrites_trans (onlyWrites_setHl s v) (onlyWrites_setFlags _ z n h c)

theorem onlyWrites_setFlags_setSp (s : State) (v : Word) (z n h c : Bool) :
    OnlyWrites [.sp, .f] [] s ((s.setSp v).setFlags z n h c) :=
  onlyWrites_trans (onlyWrites_setSp s v) (onlyWrites_setFlags _ z n h c)

/-- Flags written with the carries of a 16-bit sum hold them as the rules give them. -/
theorem flagsAre_setFlags_add16 (s : State) (z n : Bool) (old v : Word) :
    FlagsAre (s.setFlags z n (add16 old v).h (add16 old v).c) z n
      (((old ^^^ v ^^^ BitVec.ofNat 16 (old.toNat + v.toNat)) &&& 0x1000#16) ≠ 0#16)
      (old.toNat + v.toNat ≥ 65536) := by
  rw [← add16_h_eq_decide]
  exact flagsAre_setFlags s z n _ _

/-- The flag H written from a 16-bit sum is the carry out of bit 11. -/
theorem flagH_setFlags_add16 (s : State) (z n c : Bool) (old v : Word) :
    (s.setFlags z n (add16 old v).h c).flagH = true ↔ old.toNat % 4096 + v.toNat % 4096 ≥ 4096 := by
  rw [(flagsAre_setFlags s z n (add16 old v).h c).h]
  exact add16_h_iff old v

/-! ## The obligations on 16-bit arithmetic -/

/-- Settles O30: the four instructions are one sum into HL, with the flag Z of the state before. -/
theorem addPairToHL : Obligations.AddPairToHL := fun p s =>
  ⟨encodes_addHL p, _, exec_addHL p s, hl_setFlags_setHl s _ _ _ _ _, flagsAre_setFlags_add16 _ _ _ _ _,
    flagH_setFlags_add16 _ _ _ _ _ _, onlyWrites_setFlags_setHl s _ _ _ _ _⟩

/-- Settles O32: the operand's pattern is its signed value mod 65536, and both forms make one sum of SP and it. -/
theorem addSignedToSP : Obligations.AddSignedToSP := by
  intro e s
  refine ⟨ofNat_add_ofInt_toNat s.regs.sp (signed8 e), ?_⟩
  rw [← sext16_eq_ofInt]
  exact ⟨⟨⟨rfl, rfl, rfl⟩, _, rfl, rfl, flagsAre_setFlags_add16 _ _ _ _ _, onlyWrites_setFlags_setSp s _ _ _ _ _⟩,
    ⟨rfl, rfl, rfl⟩, _, rfl, hl_setFlags_setHl s _ _ _ _ _, flagsAre_setFlags_add16 _ _ _ _ _,
    onlyWrites_setFlags_setHl s _ _ _ _ _⟩

/-- Settles O31: a move of the pair is a write to its parts alone, so F stays. -/
theorem incDecPairWritesNoFlag : Obligations.IncDecPairWritesNoFlag := fun p s =>
  ⟨⟨encodes_incRp p, _, exec_incRp p s, rp_setRp s p _, onlyWrites_setRp s p _⟩,
    encodes_decRp p, _, exec_decRp p s, rp_setRp s p _, onlyWrites_setRp s p _⟩

end Sys2Proof.Proofs

namespace Sys2Proof.Proofs

open Sys2Proof Sys2Proof.Machine Sys2Proof.Laws

/-! ## Rotates, shifts and SWAP, in the words of the library (R210 to R228) -/

theorem bitAt_eq_carryByte_shiftLeft (b : Bool) (pos : Nat) : bitAt b pos = carryByte b <<< pos := by
  rw [bitAt, carryByte_eq_ofNat]

theorem getLsbD_carryByte (b : Bool) (i : Nat) : (carryByte b).getLsbD i = (decide (i = 0) && b) := by
  rw [carryByte, BitVec.getLsbD_setWidth, BitVec.getLsbD_ofBool]
  cases i <;> simp

/-- Bit 7 alone is left by a shift right by 7. -/
theorem carryByte_getLsbD_seven (v : Byte) : carryByte (v.getLsbD 7) = v >>> 7 := by
  apply BitVec.eq_of_getLsbD_eq
  intro i hi
  rw [getLsbD_carryByte, BitVec.getLsbD_ushiftRight]
  cases i with
  | zero => rfl
  | succ i => exact (BitVec.getLsbD_of_ge v _ (by omega)).symm

/-- Bit 0 alone is left by a shift left by 7. -/
theorem carryByte_getLsbD_zero_shiftLeft (v : Byte) : carryByte (v.getLsbD 0) <<< 7 = v <<< 7 := by
  apply BitVec.eq_of_getLsbD_eq
  intro i hi
  rw [BitVec.getLsbD_shiftLeft, BitVec.getLsbD_shiftLeft, getLsbD_carryByte]
  by_cases h : i < 7
  · simp [h]
  · obtain rfl : i = 7 := by omega
    simp

/-- The high nibble is lost in a shift left by 4. -/
theorem and_low_nibble_shiftLeft (v : Byte) : (v &&& 0x0F#8) <<< 4 = v <<< 4 := by
  apply BitVec.eq_of_toNat_eq
  rw [BitVec.toNat_shiftLeft, BitVec.toNat_shiftLeft, and_low_nibble_toNat, Nat.shiftLeft_eq, Nat.shiftLeft_eq]
  omega

/-- Keeping bit 7 in a shift right is the library's arithmetic shift (R224). -/
theorem ushiftRight_one_or_bit_seven (v : Byte) : (v >>> 1) ||| (v &&& 0x80#8) = v.sshiftRight 1 := by
  have hkept (i : Nat) : (v &&& 0x80#8).getLsbD i = (v.getLsbD i && decide (7 = i)) := by
    rw [BitVec.getLsbD_and]
    exact congrArg (v.getLsbD i && ·) (BitVec.getLsbD_twoPow 7 i)
  apply BitVec.eq_of_getLsbD_eq
  intro i hi
  rw [BitVec.getLsbD_or, BitVec.getLsbD_ushiftRight, hkept, BitVec.getLsbD_sshiftRight]
  by_cases h : 7 = i
  · subst h
    simp [BitVec.msb_eq_getLsbD_last]
  · have hlt : 1 + i < 8 := by omega
    simp [h, hlt, hi]

theorem shift8_eq (op : ShiftOp) (v : Byte) (c : Bool) : shift8 op v c = shifted (op.newValue v c) (op.bitOut v) := by
  cases op with
  | rlc => rw [shift8, rlc8, bitAt_eq_carryByte_shiftLeft, BitVec.shiftLeft_zero, carryByte_getLsbD_seven]; rfl
  | rrc => rw [shift8, rrc8, bitAt_eq_carryByte_shiftLeft, carryByte_getLsbD_zero_shiftLeft]; rfl
  | rl => rw [shift8, rl8, bitAt_eq_carryByte_shiftLeft, BitVec.shiftLeft_zero]; rfl
  | rr => rw [shift8, rr8, bitAt_eq_carryByte_shiftLeft]; rfl
  | sra => rw [shift8, sra8, ushiftRight_one_or_bit_seven]; rfl
  | swap => rw [shift8, swap8, and_low_nibble_shiftLeft]; rfl
  | sla | srl => rfl

/-! ## A bit of a byte after RES and SET (R232 to R235) -/

theorem getLsbD_clearBit (b : Fin 8) (v : Byte) {k : Nat} (hk : k < 8) :
    (clearBit b v).getLsbD k = if k = b.val then false else v.getLsbD k := by
  have hmask : 0xFF#8 ^^^ (1#8 <<< b.val) = ~~~BitVec.twoPow 8 b.val := by
    rw [BitVec.twoPow_eq]
    exact BitVec.allOnes_xor
  rw [clearBit, hmask, BitVec.getLsbD_and, BitVec.getLsbD_not, BitVec.getLsbD_twoPow]
  by_cases h : k = b.val
  · simp [h]
  · simp [h, hk, Ne.symm h]

theorem getLsbD_setBit (b : Fin 8) (v : Byte) (k : Nat) :
    (setBit b v).getLsbD k = if k = b.val then true else v.getLsbD k := by
  rw [setBit, ← BitVec.twoPow_eq, BitVec.getLsbD_or, BitVec.getLsbD_twoPow]
  by_cases h : k = b.val
  · simp [h]
  · simp [h, Ne.symm h]

/-! ## The instructions of the group, by their shared operation -/

theorem exec_shiftReg (op : ShiftOp) (r : Reg8) (s : State) : exec (.shiftReg op r) s = shiftRegister op r s := by
  cases op <;> cases r <;> rfl

theorem exec_shiftInd {op : ShiftOp} (s : State) (h : op ≠ .swap) : exec (.shiftInd op) s = shiftAtHL op s := by
  cases op with
  | swap => exact absurd rfl h
  | rlc | rrc | rl | rr | sla | sra | srl => rfl

theorem exec_bitReg (b : Fin 8) (r : Reg8) (s : State) : exec (.bitReg b r) s = testBit b (s.reg8 r) s := by
  fin_cases b <;> cases r <;> rfl

theorem exec_bitInd (b : Fin 8) (s : State) : exec (.bitInd b) s = testBit b (s.read8 s.hl) s := by
  fin_cases b <;> rfl

theorem exec_resReg (b : Fin 8) (r : Reg8) (s : State) : exec (.resReg b r) s = mapReg (clearBit b) r s := by
  fin_cases b <;> cases r <;> rfl

theorem exec_resInd (b : Fin 8) (s : State) : exec (.resInd b) s = mapAtHL (clearBit b) s := by
  fin_cases b <;> rfl

theorem exec_setReg (b : Fin 8) (r : Reg8) (s : State) : exec (.setReg b r) s = mapReg (setBit b) r s := by
  fin_cases b <;> cases r <;> rfl

theorem exec_setInd (b : Fin 8) (s : State) : exec (.setInd b) s = mapAtHL (setBit b) s := by
  fin_cases b <;> rfl

theorem encodes_shiftReg (op : ShiftOp) (r : Reg8) :
    Encodes (.shiftReg op r) [0xCB#8, byte (8 * op.code + r.code)] 1 false := by
  cases op <;> cases r <;> exact ⟨rfl, rfl, rfl⟩

theorem encodes_shiftInd (op : ShiftOp) : Encodes (.shiftInd op) [0xCB#8, byte (8 * op.code + 6)] 1 false := by
  cases op <;> exact ⟨rfl, rfl, rfl⟩

theorem encodes_bitReg (b : Fin 8) (r : Reg8) :
    Encodes (.bitReg b r) [0xCB#8, byte (0x40 + 8 * b.val + r.code)] 1 false := by
  fin_cases b <;> cases r <;> exact ⟨rfl, rfl, rfl⟩

theorem encodes_bitInd (b : Fin 8) : Encodes (.bitInd b) [0xCB#8, byte (0x46 + 8 * b.val)] 1 false := by
  fin_cases b <;> exact ⟨rfl, rfl, rfl⟩

theorem encodes_resReg (b : Fin 8) (r : Reg8) :
    Encodes (.resReg b r) [0xCB#8, byte (0x80 + 8 * b.val + r.code)] 1 false := by
  fin_cases b <;> cases r <;> exact ⟨rfl, rfl, rfl⟩

theorem encodes_resInd (b : Fin 8) : Encodes (.resInd b) [0xCB#8, byte (0x86 + 8 * b.val)] 1 false := by
  fin_cases b <;> exact ⟨rfl, rfl, rfl⟩

theorem encodes_setReg (b : Fin 8) (r : Reg8) :
    Encodes (.setReg b r) [0xCB#8, byte (0xC0 + 8 * b.val + r.code)] 1 false := by
  fin_cases b <;> cases r <;> exact ⟨rfl, rfl, rfl⟩

theorem encodes_setInd (b : Fin 8) : Encodes (.setInd b) [0xCB#8, byte (0xC6 + 8 * b.val)] 1 false := by
  fin_cases b <;> exact ⟨rfl, rfl, rfl⟩

/-! ## What the shared operations leave (R12, R80, R210 to R235) -/

theorem shiftRegister_result (op : ShiftOp) (r : Reg8) (s : State) :
    let new := op.newValue (s.reg8 r) s.flagC
    ∃ t, shiftRegister op r s = .next t ∧ t.reg8 r = new ∧
      FlagsAre t (new = 0#8) false false (op.bitOut (s.reg8 r)) ∧ OnlyWrites [.reg r, .f] [] s t :=
  updateReg_result (fun v => shift8 op v s.flagC) (shift8_eq op _ _)

theorem shiftAtHL_result (op : ShiftOp) (s : State) :
    let new := op.newValue (s.read8 s.hl) s.flagC
    ∃ t, shiftAtHL op s = .next t ∧ t.read8 s.hl = new ∧
      FlagsAre t (new = 0#8) false false (op.bitOut (s.read8 s.hl)) ∧ OnlyWrites [.f] [s.hl] s t :=
  updateAtHL_result (fun v => shift8 op v s.flagC) (shift8_eq op _ _)

/-- A test of a bit writes F alone, and C keeps its value. -/
theorem testBit_result (b : Fin 8) (v : Byte) (s : State) :
    ∃ t, testBit b v s = .next t ∧ FlagsAre t (!v.getLsbD b.val) false true s.flagC ∧ OnlyWrites [.f] [] s t :=
  ⟨_, rfl, flagsAre_setFlags s _ _ _ _, onlyWrites_setFlags s _ _ _ _⟩

section OneBit

/-! A map that makes bit `b` of every byte `bit` and keeps the other bits does so to its operand, and nothing else changes. -/

variable {f : Byte → Byte} {b : Fin 8} {bit : Bool}
  (hf : ∀ v : Byte, ∀ k < 8, (f v).getLsbD k = if k = b.val then bit else v.getLsbD k)
include hf

theorem mapReg_result (r : Reg8) (s : State) :
    ∃ t, mapReg f r s = .next t ∧
      (∀ k < 8, (t.reg8 r).getLsbD k = if k = b.val then bit else (s.reg8 r).getLsbD k) ∧
      OnlyWrites [.reg r] [] s t := by
  refine ⟨_, rfl, ?_, onlyWrites_setReg8 s r _⟩
  rw [reg8_setReg8_self]
  exact hf _

theorem mapAtHL_result (s : State) :
    ∃ t, mapAtHL f s = .next t ∧
      (∀ k < 8, (t.read8 s.hl).getLsbD k = if k = b.val then bit else (s.read8 s.hl).getLsbD k) ∧
      OnlyWrites [] [s.hl] s t := by
  refine ⟨_, rfl, ?_, onlyWrites_write8 s s.hl _⟩
  rw [read8_write8_self]
  exact hf _

end OneBit

/-! ## The obligations on rotates, shifts and bits -/

/-- Settles O33: each of the four is the prefixed rotate of A under an encoding of its own. -/
theorem accumulatorRotates : Obligations.AccumulatorRotates := by
  intro s x hx
  have hsame : Encodes x.1 [x.2.1] 1 false ∧ exec x.1 s = shiftRegister x.2.2 .a s := by
    simp only [List.mem_cons, List.not_mem_nil, or_false] at hx
    obtain rfl | rfl | rfl | rfl := hx <;> exact ⟨⟨rfl, rfl, rfl⟩, rfl⟩
  obtain ⟨hencodes, hexec⟩ := hsame
  exact ⟨hencodes, hexec ▸ shiftRegister_result x.2.2 .a s⟩

/-- Settles O34. -/
theorem shiftRegisterForms : Obligations.ShiftRegisterForms := fun op r s =>
  ⟨encodes_shiftReg op r, exec_shiftReg op r s ▸ shiftRegister_result op r s⟩

/-- Settles O35. -/
theorem shiftMemoryForms : Obligations.ShiftMemoryForms := fun op s hop =>
  ⟨encodes_shiftInd op, exec_shiftInd s hop ▸ shiftAtHL_result op s⟩

/-- Settles O36: both forms are one test, of the register or of the byte at HL. -/
theorem bitTestsOneBit : Obligations.BitTestsOneBit := fun b s =>
  ⟨fun r => ⟨encodes_bitReg b r, exec_bitReg b r s ▸ testBit_result b _ s⟩,
    encodes_bitInd b, exec_bitInd b s ▸ testBit_result b _ s⟩

/-- Settles O37: the four forms apply `clearBit` or `setBit`, which change one bit of any byte. -/
theorem resAndSetChangeOneBit : Obligations.ResAndSetChangeOneBit := fun b s =>
  ⟨fun r => ⟨encodes_resReg b r, exec_resReg b r s ▸ mapReg_result (fun v _ => getLsbD_clearBit b v) r s⟩,
    ⟨encodes_resInd b, exec_resInd b s ▸ mapAtHL_result (fun v _ => getLsbD_clearBit b v) s⟩,
    fun r => ⟨encodes_setReg b r, exec_setReg b r s ▸ mapReg_result (fun v k _ => getLsbD_setBit b v k) r s⟩,
    encodes_setInd b, exec_setInd b s ▸ mapAtHL_result (fun v k _ => getLsbD_setBit b v k) s⟩

end Sys2Proof.Proofs

namespace Sys2Proof.Proofs

open Sys2Proof Sys2Proof.Machine Sys2Proof.Laws

/-! ## Frames of the writes to PC (R25, R27) -/

theorem onlyWrites_setPc (s : State) (v : Word) : OnlyWrites [.pc] [] s (s.setPc v) where
  reg8 r _ := State.setPc_reg8 s v r
  f _ := rfl
  sp _ := rfl
  pc h := absurd List.mem_cons_self h
  mem _ _ := rfl
  queue _ := rfl
  run _ := rfl
  retired := rfl
  freeDraws := rfl

theorem onlyWrites_setSp_setPc (s : State) (v w : Word) : OnlyWrites [.pc, .sp] [] s ((s.setSp v).setPc w) :=
  onlyWrites_trans (onlyWrites_setPc s w) (onlyWrites_setSp _ v)

theorem onlyWrites_pushed_setPc (v w : Word) (s : State) :
    OnlyWrites [.pc, .sp] [s.regs.sp - 2#16, s.regs.sp - 1#16] s ((pushed v s).setPc w) :=
  onlyWrites_trans (onlyWrites_setPc s w) (onlyWrites_pushed v (s.setPc w))

/-! ## The instructions of the control group, by their shared operation -/

theorem exec_jpCond (cc : Cond) (a : Word) (s : State) : exec (.jpCond cc a) s = jumpIf cc a s := by
  cases cc <;> rfl

theorem exec_jrCond (cc : Cond) (e : Byte) (s : State) : exec (.jrCond cc e) s = jumpRelIf cc e s := by
  cases cc <;> rfl

theorem exec_callCond (cc : Cond) (a : Word) (s : State) : exec (.callCond cc a) s = callIf cc a s := by
  cases cc <;> rfl

theorem exec_retCond (cc : Cond) (s : State) : exec (.retCond cc) s = returnIf cc s := by
  cases cc <;> rfl

theorem exec_rstTo (y : Fin 8) (s : State) :
    exec (.rstTo y) s = callFrom s.regs.pc (BitVec.ofNat 16 (8 * y.val)) s := by
  fin_cases y <;> rfl

theorem encodes_jpCond (cc : Cond) (a : Word) :
    Encodes (.jpCond cc a) [byte (0xC2 + 8 * cc.code), loByte a, hiByte a] 3 true := by
  cases cc <;> exact ⟨rfl, rfl, rfl⟩

theorem encodes_jrCond (cc : Cond) (e : Byte) : Encodes (.jrCond cc e) [byte (0x20 + 8 * cc.code), e] 2 true := by
  cases cc <;> exact ⟨rfl, rfl, rfl⟩

theorem encodes_callCond (cc : Cond) (a : Word) :
    Encodes (.callCond cc a) [byte (0xC4 + 8 * cc.code), loByte a, hiByte a] 3 true := by
  cases cc <;> exact ⟨rfl, rfl, rfl⟩

theorem encodes_retCond (cc : Cond) : Encodes (.retCond cc) [byte (0xC0 + 8 * cc.code)] 1 true := by
  cases cc <;> exact ⟨rfl, rfl, rfl⟩

theorem encodes_rstTo (y : Fin 8) : Encodes (.rstTo y) [byte (0xC7 + 8 * y.val)] 1 true := by
  fin_cases y <;> exact ⟨rfl, rfl, rfl⟩

theorem imm16Raises_jpCond (cc : Cond) (a : Word) : Imm16Raises (.jpCond cc a) := by
  cases cc <;> exact imm16Raises_of_two_operands rfl

theorem imm16Raises_callCond (cc : Cond) (a : Word) : Imm16Raises (.callCond cc a) := by
  cases cc <;> exact imm16Raises_of_two_operands rfl

/-! ## Jumps (R250 to R255) -/

theorem cond_eq_flag_bit (s : State) (cc : Cond) :
    s.cond cc = match cc with
      | .nz => !s.regs.f.getLsbD 7
      | .z => s.regs.f.getLsbD 7
      | .nc => !s.regs.f.getLsbD 4
      | .c => s.regs.f.getLsbD 4 := by
  cases cc <;> rfl

/-- Taken or not, a conditional jump is one write to PC. -/
theorem jumpIf_eq (cc : Cond) (a : Word) (s : State) :
    jumpIf cc a s = .next (s.setPc (if s.cond cc then a else s.regs.pc + 2#16)) :=
  congrArg Host.Outcome.next (apply_ite s.setPc _ _ _).symm

theorem jumpRelIf_eq (cc : Cond) (e : Byte) (s : State) :
    jumpRelIf cc e s = .next (s.setPc (if s.cond cc then relTarget e s else s.regs.pc + 1#16)) :=
  congrArg Host.Outcome.next (apply_ite s.setPc _ _ _).symm

/-- The sum with the sign-extended operand is the signed sum mod 65536 (D34). -/
theorem relTarget_eq_ofInt (e : Byte) (s : State) :
    relTarget e s = BitVec.ofInt 16 (s.regs.pc.toNat + 1 + signed8 e) := by
  rw [relTarget, sext16_eq_ofInt, BitVec.ofInt_add, BitVec.ofInt_add, BitVec.ofInt_natCast, BitVec.ofNat_toNat,
    BitVec.setWidth_eq]
  rfl

/-! ## Calls and returns (R256 to R261) -/

theorem callFrom_of_ne (ret target : Word) {s : State} (h : s.regs.sp ≠ 0x0001#16) :
    callFrom ret target s = .next ((pushed ret s).setPc target) := by
  rw [callFrom, push16_of_ne ret h]
  rfl

theorem callFrom_of_eq (ret target : Word) {s : State} (h : s.regs.sp = 0x0001#16) :
    callFrom ret target s = .next (s.raise (.addressOutOfRange 0xFFFF)) := by
  rw [callFrom, push16_of_eq ret h]
  rfl

/-- A call stores its return address below SP and goes to its target, or raises from SP = 0x0001 before either. -/
theorem callFrom_result (ret target : Word) (s : State) :
    (s.regs.sp ≠ 0x0001#16 → ∃ t, callFrom ret target s = .next t ∧ t.regs.pc = target ∧
      t.regs.sp = s.regs.sp - 2#16 ∧ t.read8 (s.regs.sp - 2#16) = loByte ret ∧ t.read8 (s.regs.sp - 1#16) = hiByte ret ∧
      OnlyWrites [.pc, .sp] [s.regs.sp - 2#16, s.regs.sp - 1#16] s t) ∧
    (s.regs.sp = 0x0001#16 → ∃ t, callFrom ret target s = .next t ∧ Raised (.addressOutOfRange 0xFFFF) s t) :=
  ⟨fun h => ⟨_, callFrom_of_ne ret target h, rfl, rfl, read8_pushed_low ret h, read8_pushed_high ret s,
      onlyWrites_pushed_setPc ret target s⟩,
    fun h => ⟨_, callFrom_of_eq ret target h, raised_raise s _⟩⟩

theorem callIf_taken {cc : Cond} {s : State} (a : Word) (h : s.cond cc = true) :
    callIf cc a s = callFrom (s.regs.pc + 2#16) a s := if_pos h

theorem callIf_not_taken {cc : Cond} {s : State} (a : Word) (h : s.cond cc = false) :
    callIf cc a s = .next (s.setPc (s.regs.pc + 2#16)) :=
  if_neg (Bool.eq_false_iff.mp h)

theorem returnIf_taken {cc : Cond} {s : State} (h : s.cond cc = true) : returnIf cc s = finish s (popPc s) := if_pos h

theorem returnIf_not_taken {cc : Cond} {s : State} (h : s.cond cc = false) : returnIf cc s = .next s :=
  if_neg (Bool.eq_false_iff.mp h)

theorem popPc_of_ne {s : State} (h : s.regs.sp ≠ 0xFFFF#16) :
    popPc s = .ok ((s.setSp (s.regs.sp + 2#16)).setPc (stackTop s)) :=
  (popPc_eq s).trans (if_neg h)

theorem popPc_of_eq {s : State} (h : s.regs.sp = 0xFFFF#16) : popPc s = .error (.addressOutOfRange 0xFFFF) :=
  (popPc_eq s).trans (if_pos h)

theorem loByte_stackTop (s : State) : loByte (stackTop s) = s.read8 s.regs.sp := loByte_wordOf _ _

theorem hiByte_stackTop (s : State) : hiByte (stackTop s) = s.read8 (s.regs.sp + 1#16) := hiByte_wordOf _ _

/-- A return goes to the word at SP and frees it, or raises at SP = 0xFFFF. -/
theorem finish_popPc_result (s : State) :
    (s.regs.sp ≠ 0xFFFF#16 → ∃ t, finish s (popPc s) = .next t ∧ loByte t.regs.pc = s.read8 s.regs.sp ∧
      hiByte t.regs.pc = s.read8 (s.regs.sp + 1#16) ∧ t.regs.sp = s.regs.sp + 2#16 ∧ OnlyWrites [.pc, .sp] [] s t) ∧
    (s.regs.sp = 0xFFFF#16 → ∃ t, finish s (popPc s) = .next t ∧ Raised (.addressOutOfRange 0xFFFF) s t) :=
  ⟨fun h => ⟨_, congrArg (finish s) (popPc_of_ne h), loByte_stackTop s, hiByte_stackTop s, rfl,
      onlyWrites_setSp_setPc s _ _⟩,
    fun h => ⟨_, congrArg (finish s) (popPc_of_eq h), raised_raise s _⟩⟩

/-- After its pop RETI schedules with a positive countdown, which never raises (R40, R260). -/
theorem exec_reti_of_ne {s : State} (h : s.regs.sp ≠ 0xFFFF#16) :
    exec .reti s = .next (((s.setSp (s.regs.sp + 2#16)).setPc (stackTop s)).setQueue (s.queue ++ [⟨2, .enableIE⟩])) := by
  change execReti s = _
  rw [execReti, popPc_of_ne h]
  exact congrArg (finish s) (schedule_of_pos .enableIE _ (by decide))

theorem exec_reti_of_eq {s : State} (h : s.regs.sp = 0xFFFF#16) :
    exec .reti s = .next (s.raise (.addressOutOfRange 0xFFFF)) := by
  change execReti s = _
  rw [execReti, popPc_of_eq h]
  rfl

/-! ## The obligations on control transfer -/

/-- Settles O38: each jump is one write to PC, of the target or of the address after the operand. -/
theorem jumpsSetPc : Obligations.JumpsSetPc := fun cc a s =>
  ⟨cond_eq_flag_bit s cc,
    ⟨⟨rfl, rfl, rfl⟩, imm16Raises_of_two_operands rfl, _, rfl, rfl, onlyWrites_setPc s a⟩,
    ⟨encodes_jpCond cc a, imm16Raises_jpCond cc a, _, (exec_jpCond cc a s).trans (jumpIf_eq cc a s), rfl,
      onlyWrites_setPc s _⟩,
    ⟨rfl, rfl, rfl⟩, _, rfl, rfl, onlyWrites_setPc s s.hl⟩

/-- Settles O39: the operand's pattern added to the base is the signed sum mod 65536. -/
theorem relativeJumpsSetPc : Obligations.RelativeJumpsSetPc := by
  intro cc e s
  dsimp only
  rw [← relTarget_eq_ofInt]
  exact ⟨⟨⟨rfl, rfl, rfl⟩, _, rfl, rfl, onlyWrites_setPc s _⟩,
    encodes_jrCond cc e, _, (exec_jrCond cc e s).trans (jumpRelIf_eq cc e s), rfl, onlyWrites_setPc s _⟩

/-- Settles O40: a taken call of either form is one call from the address after the operand. -/
theorem callsPushReturnAddress : Obligations.CallsPushReturnAddress := by
  refine fun cc a s => ⟨⟨rfl, rfl, rfl⟩, imm16Raises_of_two_operands rfl, encodes_callCond cc a,
    imm16Raises_callCond cc a, fun h => ⟨_, (exec_callCond cc a s).trans (callIf_not_taken a h), rfl,
      onlyWrites_setPc s _⟩, fun i hi => ?_⟩
  have hexec : exec i s = callFrom (s.regs.pc + 2#16) a s := by
    obtain rfl | ⟨rfl, h⟩ := hi
    · rfl
    · exact (exec_callCond cc a s).trans (callIf_taken a h)
  exact hexec ▸ callFrom_result (s.regs.pc + 2#16) a s

/-- Settles O41: a taken return of either form is one pop into PC. -/
theorem returnsPopPc : Obligations.ReturnsPopPc := by
  refine fun cc s => ⟨⟨rfl, rfl, rfl⟩, encodes_retCond cc,
    fun h => (exec_retCond cc s).trans (returnIf_not_taken h), fun i hi => ?_⟩
  have hexec : exec i s = finish s (popPc s) := by
    obtain rfl | ⟨rfl, h⟩ := hi
    · rfl
    · exact (exec_retCond cc s).trans (returnIf_taken h)
  exact hexec ▸ finish_popPc_result s

/-- Settles O42, by the two cases of the pop; the action is scheduled only after the pop completes. -/
theorem retiPopsAndSchedules : Obligations.RetiPopsAndSchedules := by
  refine fun s => ⟨⟨rfl, rfl, rfl⟩, fun h => ?_, fun h => ?_⟩
  · exact ⟨_, exec_reti_of_ne h, loByte_stackTop s, hiByte_stackTop s, rfl, rfl,
      onlyWrites_trans (onlyWrites_setSp_setPc s _ _) (onlyWrites_setQueue _ _)⟩
  · exact ⟨_, exec_reti_of_eq h, raised_raise s _⟩

/-- Settles O43: every RST is one call, from pc to its fixed address. -/
theorem restartCallsFixedAddress : Obligations.RestartCallsFixedAddress := fun y s =>
  ⟨encodes_rstTo y, exec_rstTo y s ▸ callFrom_result s.regs.pc _ s⟩

end Sys2Proof.Proofs

namespace Sys2Proof.Proofs

open Sys2Proof Sys2Proof.Machine Sys2Proof.Laws

/-! ## The system group (R280, R281, R282, R284) -/

/-- The shared effect of DI and EI: the countdown 2 is positive, so scheduling the action never raises (R40). -/
theorem finish_schedule_two_result (act : DeferredEffect) (s : State) :
    ∃ t, finish s (schedule 2 act s) = .next t ∧ t.queue = s.queue ++ [⟨2, act⟩] ∧ OnlyWrites [.queue] [] s t :=
  ⟨_, congrArg (finish s) (schedule_of_pos act s two_pos), rfl, onlyWrites_setQueue s _⟩

/-- Settles O44: DI and EI are one scheduling of their action, and STOP is one write to the run state. -/
theorem systemInstructionEffects : Obligations.SystemInstructionEffects := fun _ s =>
  ⟨⟨⟨rfl, rfl, rfl⟩, rfl⟩,
    ⟨⟨rfl, rfl, rfl⟩, finish_schedule_two_result .disableIE s⟩,
    ⟨⟨rfl, rfl, rfl⟩, finish_schedule_two_result .enableIE s⟩,
    ⟨rfl, rfl, rfl⟩, s.setRun .stopped, rfl, rfl, onlyWrites_setRun s .stopped⟩

end Sys2Proof.Proofs

namespace Sys2Proof.Proofs

open Sys2Proof Sys2Proof.Machine Sys2Proof.Laws

/-! ## The errors of a step (R301 to R305, R308) -/

/-- A step that retires its instruction is not Terminated, so the error that a step ends in is one its instruction can raise:
none arises at steps 6 to 8 (R308). -/
theorem canRaise_of_step_terminated {s t : State} {e : FatalError} (h : step s = .next t)
    (hterm : t.run = .terminated e) : CanRaise (fetch s) e := by
  obtain ⟨hrun, ⟨u, -, hu, rfl⟩ | ⟨raised, hraised, rfl⟩⟩ := step_cases h
  · have hcompleted : u.run.isTerminated = false := isTerminated_of_ran (s := s.advancePc _) hrun hu
    obtain ⟨-, -, hkept, -⟩ := retireNow_frame (fetch s) u
    rw [← hkept, hterm] at hcompleted
    cases hcompleted
  · cases hterm
    exact hraised

/-- Settles O54: no instruction can raise another kind. DI, EI and RETI schedule with countdown 2, so the effects never meet
InvalidDeferredAction. -/
theorem stepErrorsAreTheThreeKinds : Obligations.StepErrorsAreTheThreeKinds := by
  intro s t e h hterm
  obtain haddress | hundefined | ⟨hunimplemented, -⟩ := canRaise_of_step_terminated h hterm
  · exact .inl haddress
  · exact .inr (.inl hundefined)
  · exact .inr (.inr hunimplemented)

end Sys2Proof.Proofs

namespace Sys2Proof.Proofs

open Sys2Proof Sys2Proof.Machine Sys2Proof.Laws

/-! ## Loading an image (R331) -/

theorem loadFrom_cons_in_range {i : Nat} (v : Byte) (rest : List Byte) (m : Memory) (h : i ≤ 0xFFFF) :
    loadFrom i (v :: rest) m = loadFrom (i + 1) rest (m.setCell (canon i) v) := by
  have hw : m.writeByte i v.toNat = .ok (m.setCell (canon i) v) := by
    rw [Memory.writeByte, if_pos (by omega), BitVec.ofInt_natCast, BitVec.ofNat_toNat, BitVec.setWidth_eq, Int.toNat_natCast]
  simp only [loadFrom, hw]

theorem loadFrom_cons_out_of_range {i : Nat} (v : Byte) (rest : List Byte) (m : Memory) (h : 0xFFFF < i) :
    loadFrom i (v :: rest) m = (m, some (.addressOutOfRange i)) := by
  simp only [loadFrom, writeByte_out_of_range (a := i) m v.toNat (by omega)]

theorem loadFrom_error_of_fits {i : Nat} {bytes : List Byte} (m : Memory) (h : i + bytes.length ≤ 65536) :
    (loadFrom i bytes m).2 = none := by
  induction bytes generalizing i m with
  | nil => rfl
  | cons v rest ih =>
    rw [List.length_cons] at h
    rw [loadFrom_cons_in_range v rest m (by omega)]
    exact ih _ (by omega)

/-- Of an image that is too long the byte at 0x10000 is the first that fails, wherever in range the loading began. -/
theorem loadFrom_error_of_too_long {i : Nat} {bytes : List Byte} (m : Memory) (hi : i ≤ 65536)
    (h : 65536 < i + bytes.length) : (loadFrom i bytes m).2 = some (.addressOutOfRange 0x10000) := by
  induction bytes generalizing i m with
  | nil => exact absurd hi (Nat.not_le.mpr h)
  | cons v rest ih =>
    rw [List.length_cons] at h
    obtain hlt | rfl := Nat.lt_or_eq_of_le hi
    · rw [loadFrom_cons_in_range v rest m (by omega)]
      exact ih _ (by omega) (by omega)
    · rw [loadFrom_cons_out_of_range v rest m (by decide)]
      rfl

/-- A cell that no byte of the image names stays. -/
theorem cell_loadFrom_of_unnamed {i c : Nat} {bytes : List Byte} (m : Memory)
    (h : ∀ j < bytes.length, i + j ≤ 0xFFFF → canon (i + j) ≠ c) : (loadFrom i bytes m).1.cell c = m.cell c := by
  induction bytes generalizing i m with
  | nil => rfl
  | cons v rest ih =>
    by_cases hi : i ≤ 0xFFFF
    · have hfirst : canon i ≠ c := h 0 (Nat.succ_pos _) hi
      have hrest : ∀ j < rest.length, i + 1 + j ≤ 0xFFFF → canon (i + 1 + j) ≠ c := fun j hj => by
        rw [Nat.add_right_comm]
        exact h (j + 1) (Nat.succ_lt_succ hj)
      rw [loadFrom_cons_in_range v rest m hi, ih _ hrest, cell_setCell, if_neg hfirst]
    · rw [loadFrom_cons_out_of_range v rest m (by omega)]

/-- The last byte of the image for a cell is there afterwards. -/
theorem cell_loadFrom_of_last {i k : Nat} {bytes : List Byte} (m : Memory) (hk : k < bytes.length) (hin : i + k ≤ 0xFFFF)
    (hlast : ∀ j, k < j → j < bytes.length → i + j ≤ 0xFFFF → canon (i + j) ≠ canon (i + k)) :
    some ((loadFrom i bytes m).1.cell (canon (i + k))) = bytes[k]? := by
  induction bytes generalizing i k m with
  | nil => exact absurd hk (Nat.not_lt_zero k)
  | cons v rest ih =>
    rw [loadFrom_cons_in_range v rest m (by omega)]
    cases k with
    | zero =>
      have hrest : ∀ j < rest.length, i + 1 + j ≤ 0xFFFF → canon (i + 1 + j) ≠ canon i := fun j hj => by
        rw [Nat.add_right_comm]
        exact hlast (j + 1) (Nat.succ_pos j) (Nat.succ_lt_succ hj)
      exact congrArg some ((cell_loadFrom_of_unnamed _ hrest).trans ((cell_setCell m _ _ v).trans (if_pos rfl)))
    | succ k =>
      have hrest := ih (i := i + 1) (k := k) (m.setCell (canon i) v)
      simp only [Nat.add_right_comm i 1] at hrest
      exact hrest (Nat.lt_of_succ_lt_succ hk) hin fun j hkj hj => hlast (j + 1) (Nat.succ_lt_succ hkj) (Nat.succ_lt_succ hj)

/-- Settles O60, by induction over the image from any index: what fails, and which byte each cell holds afterwards. -/
theorem loadWritesImage : Obligations.LoadWritesImage := by
  refine fun s bytes => ⟨rfl, rfl, rfl, rfl, fun h => loadFrom_error_of_fits s.mem (by omega),
    fun h => loadFrom_error_of_too_long s.mem (Nat.zero_le _) (by omega), fun k hk hin hlast => ?_, fun a h => ?_⟩
  · have hcell := cell_loadFrom_of_last (i := 0) s.mem hk (by omega) (by simpa only [Nat.zero_add] using hlast)
    have hword : (BitVec.ofNat 16 k).toNat = k := Nat.mod_eq_of_lt (by omega)
    rw [← hcell, Nat.zero_add]
    exact congrArg (fun n => some ((loadFrom 0 bytes s.mem).1.cell (canon n))) hword
  · exact cell_loadFrom_of_unnamed s.mem (by simpa only [Nat.zero_add] using h)

end Sys2Proof.Proofs

namespace Sys2Proof.Proofs

open Sys2Proof Sys2Proof.Machine Sys2Proof.Laws

/-! ## The latency of the deferred IE write (R342) -/

/-- A step that raised nothing ran its instruction and retired it. -/
theorem step_retires {s t : State} (h : step s = .next t) (hterm : t.run.isTerminated = false) :
    ∃ u, exec (fetch s) (s.advancePc (fetch s).keyLength) = .next u ∧
      Ran (fetch s) (s.advancePc (fetch s).keyLength) u ∧ t = retireNow (fetch s) u := by
  obtain ⟨-, hretired | ⟨e, -, rfl⟩⟩ := step_cases h
  · exact hretired
  · cases hterm

/-- A step that ends in a fatal error does not tick the queue (R310). -/
theorem step_queue_of_isTerminated {s t : State} (h : step s = .next t) (hterm : t.run.isTerminated = true) :
    t.queue = s.queue := by
  obtain ⟨hrun, ⟨u, -, hu, rfl⟩ | ⟨e, -, rfl⟩⟩ := step_cases h
  · have hcompleted := isTerminated_of_ran (s := s.advancePc _) hrun hu
    obtain ⟨-, -, hr, -⟩ := retireNow_frame (fetch s) u
    rw [hr, hcompleted] at hterm
    cases hterm
  · rfl

/-- What an effect scheduled is not due at its own retirement: the entries due then are those that were pending before. -/
theorem due_queue_of_ran {i : Instr} {s t : State} (h : Ran i s t) : due t.queue = due s.queue := by
  have hnew : due (scheduled i) = [] := by
    obtain hi | ⟨effect, hi⟩ := scheduled_cases i
    · rw [hi]; rfl
    · rw [hi]; rfl
  rw [h.queue, due_append, hnew, List.append_nil]

theorem retireNow_read8 (i : Instr) (s : State) (a : Word) : (retireNow i s).read8 a = (tick s).read8 a := by
  obtain ⟨hmem, -⟩ := retireNow_frame i s
  exact read8_of_mem_eq hmem a

/-- The retirement of an effect that found no action pending writes no memory. -/
theorem retireNow_read8_of_queue_nil {i : Instr} {s t : State} (h : Ran i s t) (hq : s.queue = []) (a : Word) :
    (retireNow i t).read8 a = t.read8 a := by
  have hdue : due t.queue = [] := by rw [due_queue_of_ran h, hq]; rfl
  rw [retireNow_read8]
  exact (onlyWrites_tick_of_due_eq_nil hdue).mem a fun _ hx => absurd hx List.not_mem_nil

/-- The action that is pending before a step has written IE once the step has retired its instruction. -/
theorem step_read8_addrIE_of_pending {s t : State} {effect : DeferredEffect} (h : step s = .next t)
    (hterm : t.run.isTerminated = false) (hq : s.queue = [⟨1, effect⟩]) : t.read8 addrIE = effect.ieValue := by
  obtain ⟨u, -, hu, rfl⟩ := step_retires h hterm
  have hdue : due u.queue = [] ++ [⟨0, effect⟩] := by rw [due_queue_of_ran hu, State.advancePc_queue, hq]; rfl
  rw [retireNow_read8]
  exact tick_read8_addrIE hdue

/-- The schedulers DI, EI and RETI write no memory of their own. -/
theorem exec_read8_of_scheduled {i : Instr} {s t : State} (h : exec i s = .next t) (hterm : t.run.isTerminated = false)
    (hi : scheduled i ≠ []) (a : Word) : t.read8 a = s.read8 a := by
  unfold scheduled at hi
  split at hi
  · cases h; rfl
  · cases h; rfl
  · by_cases hsp : s.regs.sp = 0xFFFF#16
    · rw [exec_reti_of_eq hsp] at h
      cases h
      cases hterm
    · rw [exec_reti_of_ne hsp] at h
      cases h
      rfl
  · exact absurd rfl hi

/-- Settles O48: what the scheduler adds to the settled queue has one tick to go when it retires, and fires in the next
step's. -/
theorem deferredWriteLatency : Obligations.DeferredWriteLatency := by
  intro s t u act hrun hs hst htu hfetch value
  have hvalue (e : DeferredEffect) : value e = e.ieValue := by
    cases e
    · rfl
    · rfl
  have hsched : scheduled (fetch s) = [⟨2, act⟩] := by
    obtain ⟨hf, rfl⟩ | ⟨hf, rfl⟩ | ⟨hf, rfl⟩ := hfetch
    · rw [hf]; rfl
    · rw [hf]; rfl
    · rw [hf]; rfl
  have hterm : t.run.isTerminated = false := by rw [(step_cases htu).1]; rfl
  obtain ⟨v, hv, hran, hretired⟩ := step_retires hst hterm
  have hqueue : t.queue = [⟨1, act⟩] := by
    rw [hretired, retireNow_queue, tick_queue_of_ran (s := s.advancePc _) hs.queueSettled hran, hsched]
    rfl
  refine ⟨hqueue, fun hnone => ?_, fun pending hpending => ?_, fun hu => ?_, fun hu => ?_⟩
  · have hvterm : v.run.isTerminated = false := isTerminated_of_ran (s := s.advancePc _) hrun hran
    rw [hretired, retireNow_read8_of_queue_nil hran hnone,
      exec_read8_of_scheduled hv hvterm (hsched ▸ List.cons_ne_nil _ _)]
    rfl
  · rw [hvalue]
    exact step_read8_addrIE_of_pending hst hterm hpending
  · rw [hvalue]
    exact step_read8_addrIE_of_pending htu hu hqueue
  · rw [step_queue_of_isTerminated htu hu, hqueue]

end Sys2Proof.Proofs
